-- ==== Sys2Proof/Word.lean ====
section
/-! DEFINITION. The plain types: bytes and host words (R10: 32-bit words, R40: 7-bit offsets). -/

namespace Sys2Proof

/-- One byte on the bus or of a buffer. -/
abbrev Byte := BitVec 8

/-- One word of the host interface (R10). -/
abbrev Word := BitVec 32

/-- A byte offset into the host register space (R40: 7 bits). -/
abbrev Offset := BitVec 7

/-- A register array of the block: 33 = `MAX_STR` + 1 bytes (R5, R16, R26). -/
abbrev Buffer := Vector Byte 33

/-- `MAX_STR`, a constant of the hardware (R5). -/
def maxStr : Nat := 32

end Sys2Proof
end

