-- ==== Sys2Proof/Config.lean ====
section
/-! DEFINITION. What an implementation fixes and the free values: opaque constants, no value chosen. -/

namespace Sys2Proof

/-- The answer to a transmitted byte, and the master's answer to a received one (R80, R82).
`nack` stands for every way of not acknowledging, the transport timeout included. -/
inductive Ack where
  | ack
  | nack
  deriving DecidableEq, Repr, Inhabited

/-- The peripheral's answer in a receive slot (R82). -/
inductive SlotAnswer where
  | byte (d : Byte)
  | timeout
  deriving DecidableEq, Repr, Inhabited

/-- The named telemetry fields behind the pseudo-instructions (R74). -/
inductive Field where
  | temperature
  | voltage
  | current
  | absSoc
  | remainingCapacity
  | designCapacity
  | cycleCount
  | stateOfHealth
  | statusFlags
  | serialNumber
  | manufactureDate
  | modelName
  | manufacturerName
  deriving DecidableEq, Repr

/-- `PERIPH_ADDR`, the 7-bit bus address of the peripheral, fixed when the block is built (R4, D5). -/
opaque Config.periphAddr : BitVec 7

/-- `CC_<FIELD>`: the command code of a telemetry field, which the source does not give (R74, N2). -/
opaque Config.commandCode : Field → Byte

/-- FREE VALUE: the k-th answer to `PeriphAck` that no listed answer fixes (R82, U2; log 3). -/
opaque Config.freeAck : Nat → Ack

/-- FREE VALUE: the k-th answer to `PeriphByte` that no listed answer fixes (R82, U2; log 3). -/
opaque Config.freeSlot : Nat → SlotAnswer

/-- `T_TIMEOUT`, the duration of the transport's timeout: open, in no rule (R7, R213, D10). -/
opaque Config.tTimeout : Nat

/-- `F_SCL`, the bus clock rate: open, in no rule (R7, R213, D29). -/
opaque Config.fScl : Nat

end Sys2Proof
end

