-- ==== Sys2Proof/Syntax.lean ====
section
/-! DEFINITION. The four commands (R62), and the assembler's lines (R72) with the pseudo-instructions (R74). -/

namespace Sys2Proof

/-- The commands of the block. `reg` is the `REG` operand: any of the 256 values is legal (R61, R64). -/
inductive Instr where
  /-- RD8 reg (R110). -/
  | rd8 (reg : Byte)
  /-- RD16 reg (R111). -/
  | rd16 (reg : Byte)
  /-- RD32 reg (R112). -/
  | rd32 (reg : Byte)
  /-- RDSTR reg (R130). -/
  | rdstr (reg : Byte)
  deriving DecidableEq, Repr

/-- The operand `REG` of a command. -/
def Instr.reg : Instr → Byte
  | .rd8 r | .rd16 r | .rd32 r | .rdstr r => r

/-- The mnemonics of the assembler (R72). -/
inductive Mnemonic where
  | rd8
  | rd16
  | rd32
  | rdstr
  deriving DecidableEq, Repr

/-- The operand of an assembler line: "a number 0 to 255 or a symbolic command code name" (R72). -/
inductive AsmOperand where
  | number (n : Nat)
  | code (f : Field)
  deriving DecidableEq, Repr

/-- One line `MNEMONIC reg` (R72). -/
structure AsmLine where
  mnemonic : Mnemonic
  operand : AsmOperand
  deriving DecidableEq, Repr

/-- The expansion of each pseudo-instruction (the table of R74). -/
def Field.expand : Field → AsmLine
  | .temperature => ⟨.rd16, .code .temperature⟩
  | .voltage => ⟨.rd16, .code .voltage⟩
  | .current => ⟨.rd16, .code .current⟩
  | .absSoc => ⟨.rd8, .code .absSoc⟩
  | .remainingCapacity => ⟨.rd16, .code .remainingCapacity⟩
  | .designCapacity => ⟨.rd16, .code .designCapacity⟩
  | .cycleCount => ⟨.rd16, .code .cycleCount⟩
  | .stateOfHealth => ⟨.rd16, .code .stateOfHealth⟩
  | .statusFlags => ⟨.rd16, .code .statusFlags⟩
  | .serialNumber => ⟨.rd16, .code .serialNumber⟩
  | .manufactureDate => ⟨.rd16, .code .manufactureDate⟩
  | .modelName => ⟨.rdstr, .code .modelName⟩
  | .manufacturerName => ⟨.rdstr, .code .manufacturerName⟩

end Sys2Proof
end

