-- ==== Sys2Proof/WellFormed.lean ====
section
/-! DEFINITION. The checks on what the outside world writes down. Every `Instr` is legal (R64), so the checks are on
assembler lines (R72) and on host offsets (R47). -/

namespace Sys2Proof

/-- An operand written as a number is 0 to 255 (R72). -/
def AsmLine.wf (l : AsmLine) : Bool :=
  match l.operand with
  | .number n => decide (n ≤ 255)
  | .code _ => true

/-- `off` is one of the 32 word offsets 0x00 to 0x7C (R41, R47). -/
def Offset.isWord (off : Offset) : Bool :=
  off.extractLsb' 0 2 == 0#2

end Sys2Proof
end

