-- ==== Sys2Proof/Decode.lean ====
section
/-! DEFINITION. Command words: fields (R60), the total decoder (R67), the encoder (R62) and the assembler (R72). -/

namespace Sys2Proof

/-- Why a word is no command: the three classes of R66. -/
inductive Illegal where
  /-- `RSV` ≠ 0. -/
  | reservedBits
  /-- `STR` = 0 and `WIDTH` not 1, 2 or 4. -/
  | unsupportedWidth
  /-- `STR` = 1 and `WIDTH` ≠ 0. -/
  | widthWithString
  deriving DecidableEq, Repr

/-- `RSV`, bits 31:12 (R60). -/
def fieldRsv (w : Word) : BitVec 20 := w.extractLsb' 12 20
/-- `STR`, bit 11 (R60). -/
def fieldStr (w : Word) : BitVec 1 := w.extractLsb' 11 1
/-- `WIDTH`, bits 10:8 (R60). -/
def fieldWidth (w : Word) : BitVec 3 := w.extractLsb' 8 3
/-- `REG`, bits 7:0 (R60). -/
def fieldReg (w : Word) : Byte := w.extractLsb' 0 8

/-- The decoder, total on words (R67); an illegal word is rejected under the name of its class (R66). -/
def decode (w : Word) : Except Illegal Instr :=
  if fieldRsv w ≠ 0#20 then .error .reservedBits
  else if w.extractLsb' 8 4 = 0b0001#4 then .ok (.rd8 (fieldReg w))
  else if w.extractLsb' 8 4 = 0b0010#4 then .ok (.rd16 (fieldReg w))
  else if w.extractLsb' 8 4 = 0b0100#4 then .ok (.rd32 (fieldReg w))
  else if w.extractLsb' 8 4 = 0b1000#4 then .ok (.rdstr (fieldReg w))
  else if fieldStr w = 1#1 then .error .widthWithString
  else .error .unsupportedWidth

/-- The `match` column of R62. -/
def matchWord : Instr → Word
  | .rd8 _ => 0x00000100#32
  | .rd16 _ => 0x00000200#32
  | .rd32 _ => 0x00000400#32
  | .rdstr _ => 0x00000800#32

/-- The command word of mnemonic M with operand reg is `match(M) | reg` (R62). -/
def encode (i : Instr) : Word := matchWord i ||| i.reg.setWidth 32

/-- The value of an assembler operand (R72, R74). -/
def AsmOperand.value : AsmOperand → Byte
  | .number n => BitVec.ofNat 8 n
  | .code f => Config.commandCode f

/-- The command of a mnemonic (R72). -/
def Mnemonic.instr : Mnemonic → Byte → Instr
  | .rd8, r => .rd8 r
  | .rd16, r => .rd16 r
  | .rd32, r => .rd32 r
  | .rdstr, r => .rdstr r

/-- The assembler: an ill-formed line assembles to nothing, any other to its command word (R72). -/
def assemble (l : AsmLine) : Option Word :=
  if l.wf then some (encode (l.mnemonic.instr l.operand.value)) else none

/-- The instruction the decoder reads from a command whose low `nbits` bits are those of `w`, the bits above zero.
A command is one 32-bit word, handed over whole by `HostWrite`, so no byte order enters (R60; log 8). -/
def decodeTableWord (nbits w : Nat) : Option Instr :=
  if w % 2 ^ nbits < 2 ^ 32 then (decode (BitVec.ofNat 32 (w % 2 ^ nbits))).toOption else none

end Sys2Proof
end

