-- ==== Sys2Proof/Machine/State.lean ====
section
/-! DEFINITION. The state of the block (file 10_state.md), the reasons a step can stop, and the state at power-on. -/

namespace Sys2Proof.Machine

/-- `PH`: A in the only transaction of a scalar and the first of a string, B in the second of a string (R22). -/
inductive Phase where
  | a
  | b
  deriving DecidableEq, Repr

/-- `ST`: the next thing the controller will do (R22). -/
inductive SeqState where
  | idle
  | start
  | addrw
  | cmdb
  | rstart
  | addrr
  | datab
  | stop
  deriving DecidableEq, Repr

/-- `BUS` (R28). -/
inductive BusState where
  | free
  | owned
  deriving DecidableEq, Repr

/-- The bus symbols of R80. -/
inductive Symbol where
  /-- `S`: start. -/
  | start
  /-- `Sr`: repeated start. -/
  | restart
  /-- `P`: stop. -/
  | stop
  /-- `W(b, a)`: byte `b` transmitted, the peripheral answered `a`. -/
  | sent (b : Byte) (a : Ack)
  /-- `R(d, m)`: byte `d` received, the master answered `m`. -/
  | received (d : Byte) (m : Ack)
  /-- `Rt`: the timeout elapsed in a receive slot. -/
  | timeout
  /-- `X`: a `Reset` found the bus `Owned` (R192). -/
  | abandoned
  deriving DecidableEq, Repr

/-- One turn of the scheduler: an action of the host (R73) or a micro-step of the controller (R56; log 2). -/
inductive Turn where
  /-- `WR off, v`: `HostWrite(off, v)`. -/
  | write (off : Offset) (v : Word)
  /-- `RD off`: `HostRead(off)`. -/
  | read (off : Offset)
  /-- `WAIT`: poll `STATUS` until `BUSY` = 0. -/
  | wait
  /-- `RESET`. -/
  | reset
  /-- One micro-step of the controller. -/
  | controller
  deriving DecidableEq, Repr

/-- The peripheral as the oracle of R82: the answers it will give, oldest first; where a list is used up the answer is
the free value of Config at the counter `asked` (log 3). The model's own, not a register of the block. -/
structure Periph where
  acks : List Ack
  slots : List SlotAnswer
  asked : Nat
  deriving DecidableEq, Repr

/-- Everything the spec gives the machine (INVENTORY.md, State), and the model's own `reads`, `agenda`, `periph`. -/
structure State where
  /-- `STATUS.BUSY` (R11). -/
  busy : Bool
  /-- `STATUS.DONE` (R12). -/
  done : Bool
  /-- `STATUS.FAULT` (R13). -/
  fault : Bool
  /-- `STATUS.CAUSE` (R13). -/
  cause : BitVec 2
  /-- `FINFO` (R19). -/
  finfo : Word
  /-- `DATA` (R14). -/
  data : Word
  /-- `STRLEN` (R15). -/
  strlen : BitVec 6
  /-- `STRBUF[0..32]` (R16). -/
  strbuf : Buffer
  /-- `OPK`: 0 scalar, 1 string (R20). -/
  opk : BitVec 1
  /-- `WL` (R20). -/
  wl : BitVec 3
  /-- `REGL` (R20). -/
  regl : Byte
  /-- `N` (R21). -/
  n : BitVec 6
  /-- `CNT` (R24). -/
  cnt : BitVec 6
  /-- `LLAT` (R25). -/
  llat : Byte
  /-- `PH` of `SEQ` (R22). -/
  ph : Phase
  /-- `ST` of `SEQ` (R22). -/
  st : SeqState
  /-- `RBUF[0..32]` (R26). -/
  rbuf : Buffer
  /-- `FAILF` (R27). -/
  failf : Bool
  /-- `BUS` (R28). -/
  bus : BusState
  /-- `TRACE`, oldest first (R29). -/
  trace : List Symbol
  /-- What each `HostRead` returned, oldest first: the host half of the observation (R8; log 6). -/
  reads : List (Offset × Word)
  /-- The turns to come, next first (R56, R73; log 2). -/
  agenda : List Turn
  /-- The peripheral (R82; log 3). -/
  periph : Periph
  deriving DecidableEq, Repr

/-- Why a step can stop the machine. -/
inductive Fault where
  /-- Raised by the DATAB micro-step where R95's side condition 0 ≤ `CNT` < `N` (with `N` ≤ 33, R21) does not hold: the
  spec gives no rule there, and no run reaches it. Safe: the model stops (log 9). -/
  | receiveOverrun
  deriving DecidableEq, Repr

/-- Why a step has no meaning. -/
inductive Refusal where
  /-- An instruction with no meaning yet. Raised by no arm. Safe. -/
  | notModelled (mnemonic : String)
  /-- Raised by a host access at an offset that is not a multiple of 4, which R47 says a model "refuses at its boundary".
  Safe: the access cannot be expressed in the hardware (log 7). -/
  | notWordOffset (off : Offset)
  deriving DecidableEq, Repr

/-- What a step answers. -/
abbrev Outcome := Host.Outcome State Fault Refusal

/-- The machine at power-on: every element at its reset value, `TRACE` empty (R36, R190, R191); no turn pending and no
answer listed (log 2, 3, 6). -/
def State.reset : State where
  busy := false
  done := false
  fault := false
  cause := 0#2
  finfo := 0#32
  data := 0#32
  strlen := 0#6
  strbuf := Vector.replicate 33 0#8
  opk := 0#1
  wl := 0#3
  regl := 0#8
  n := 0#6
  cnt := 0#6
  llat := 0#8
  ph := .a
  st := .idle
  rbuf := Vector.replicate 33 0#8
  failf := false
  bus := .free
  trace := []
  reads := []
  agenda := []
  periph := ⟨[], [], 0⟩

end Sys2Proof.Machine
end

