-- ==== Sys2Proof/Machine/Operands.lean ====
section
/-! DEFINITION. Operand forms: byte counts (R63), address bytes (R69), the master's acknowledge (R83), the word
assembler (R113), the string length decoder and copy (R132, R133, R136), the word view of the string buffer (R17). -/

namespace Sys2Proof.Machine

/-- `N0`: the number of bytes the first transaction of a command receives (R63, R21). -/
def firstCount (opk : BitVec 1) (wl : BitVec 3) : BitVec 6 :=
  if opk = 1#1 then 1#6 else if wl = 4#3 then 5#6 else wl.setWidth 6

/-- `SKIP`: the leading bytes a scalar discards before assembly (R63, R112, R119). -/
def skipCount (wl : BitVec 3) : Nat :=
  if wl = 4#3 then 1 else 0

/-- `AW` = {PERIPH_ADDR, 0} (R69). -/
def addrWrite (a : BitVec 7) : Byte := a ++ 0#1

/-- `AR` = {PERIPH_ADDR, 1} (R69). -/
def addrRead (a : BitVec 7) : Byte := a ++ 1#1

/-- The master acknowledges every received byte of a transaction but the last (R83). -/
def masterAck (last : Bool) : Ack :=
  if last then .nack else .ack

/-- The word assembler on a complete receive buffer: little-endian, zero-extended, RD32 without `RBUF[0]` (R113). -/
def assembleScalar (wl : BitVec 3) (rbuf : Buffer) : Word :=
  if wl = 1#3 then rbuf[0].setWidth 32
  else if wl = 2#3 then (rbuf[1] ++ rbuf[0]).setWidth 32
  else rbuf[4] ++ rbuf[3] ++ rbuf[2] ++ rbuf[1]

/-- `Lc` = min(L, 32) (R133). -/
def clampLength (l : Byte) : BitVec 6 :=
  if l.toNat ≤ maxStr then l.setWidth 6 else 32#6

/-- Byte `i` of a buffer, 0x00 past its end (the `B(i)` of R17). -/
def byteAt (b : Buffer) (i : Nat) : Byte := b[i]?.getD 0#8

/-- The string buffer of a successful read: `Lc` characters after the duplicate length byte, then zeros (R136). -/
def copyString (lc : BitVec 6) (rbuf : Buffer) : Buffer :=
  Vector.ofFn fun i : Fin 33 => if i.val < lc.toNat then byteAt rbuf (i.val + 1) else 0#8

/-- The empty, terminated string: all bytes zero (R16). -/
def emptyBuffer : Buffer := Vector.replicate 33 0#8

/-- `STRW[k]`: four bytes of the string buffer, the lower index less significant (R17). -/
def stringWord (b : Buffer) (k : Nat) : Word :=
  byteAt b (4 * k + 3) ++ byteAt b (4 * k + 2) ++ byteAt b (4 * k + 1) ++ byteAt b (4 * k)

/-- The command word with the given latched fields, {20'b0, OPK, WL, REGL} (R19, R60). -/
def latchWord (opk : BitVec 1) (wl : BitVec 3) (regl : Byte) : Word :=
  0#20 ++ opk ++ wl ++ regl

end Sys2Proof.Machine
end

