-- ==== Sys2Proof/Machine/Flags.lean ====
section
/-! DEFINITION. The `STATUS` flags: what sets and clears them (R11 to R13) and the word the host reads (R151). -/

namespace Sys2Proof.Machine

/-- The two command faults (R170). -/
inductive CommandFault where
  | illegalCommand
  | commandWhileBusy
  deriving DecidableEq, Repr

/-- The `CAUSE` code of a command fault (R170). -/
def causeCode : CommandFault → BitVec 2
  | .illegalCommand => 1#2
  | .commandWhileBusy => 2#2

/-- The `STATUS` word: {26'b0, CAUSE, 1'b0, FAULT, DONE, BUSY} (R151). -/
def statusWord (s : State) : Word :=
  0#26 ++ s.cause ++ 0#1 ++ BitVec.ofBool s.fault ++ BitVec.ofBool s.done ++ BitVec.ofBool s.busy

/-- The flags at acceptance: `BUSY` set, `DONE` cleared (R154). -/
def State.beginOperation (s : State) : State :=
  { s with busy := true, done := false }

/-- The flags at the commit, of a successful and a failed operation alike: `BUSY` cleared, `DONE` set (R97, R12). -/
def State.endOperation (s : State) : State :=
  { s with busy := false, done := true }

end Sys2Proof.Machine
end

