-- ==== Sys2Proof/Machine/Ops.lean ====
section
/-! DEFINITION. The named operations: bus symbols, the oracle, fault entry, command acceptance, the register map, reset. -/

namespace Sys2Proof.Machine

/-- `Emit(sym)`: append a bus symbol to the trace (R29, R80). -/
def State.emit (y : Symbol) (s : State) : State :=
  { s with trace := s.trace ++ [y] }

/-- `SEQ <- (PH, st)`: `PH` is kept (section 4 of 40_bus_transaction.md). -/
def State.goto (st : SeqState) (s : State) : State :=
  { s with st := st }

/-- `BUS <- b` (R28). -/
def State.setBus (b : BusState) (s : State) : State :=
  { s with bus := b }

/-- A bus failure: `FAILF <- 1`, and on to `STOP` (R91, R92, R94, R95). It is no fault (R173). -/
def State.failTransaction (s : State) : State :=
  { s with failf := true, st := .stop }

/-- `PeriphAck(b)`: the next listed answer, else a free value (R82; log 3). -/
def Periph.ack (p : Periph) : Ack × Periph :=
  match p.acks with
  | a :: rest => (a, { p with acks := rest })
  | [] => (Config.freeAck p.asked, { p with asked := p.asked + 1 })

/-- `PeriphByte()`: the next listed answer, else a free value (R82; log 3). -/
def Periph.slot (p : Periph) : SlotAnswer × Periph :=
  match p.slots with
  | d :: rest => (d, { p with slots := rest })
  | [] => (Config.freeSlot p.asked, { p with asked := p.asked + 1 })

/-- TAKING A COMMAND FAULT, `raise F(v)` (R174): the first fault since reset is recorded, a later one changes nothing.
There is no handler, nothing else is saved, and there is no return (R175): only `Reset` clears the record. -/
def State.raise (f : CommandFault) (v : Word) (s : State) : State :=
  if s.fault then s else { s with fault := true, cause := causeCode f, finfo := v }

/-- Latch a command (R154): the fields of the word, `N` of R63, `FAILF <- 0`, `SEQ <- (A, START)`. -/
def State.latch (opk : BitVec 1) (wl : BitVec 3) (reg : Byte) (s : State) : State :=
  { s with opk := opk, wl := wl, regl := reg, n := firstCount opk wl, failf := false, ph := .a, st := .start }

/-- A legal command word with the given fields, written to `CMD`: accepted when `BUSY` = 0 (R154, whatever `DONE` and
`FAULT` are, R157), else dropped with CommandWhileBusy (R156, R172). -/
def issue (opk : BitVec 1) (wl : BitVec 3) (reg : Byte) (s : State) : Outcome :=
  .next (if s.busy then s.raise .commandWhileBusy (latchWord opk wl reg) else (s.latch opk wl reg).beginOperation)

/-- An illegal word written to `CMD`: the busy test comes first (R178), then IllegalCommand (R155, R171). -/
def rejectCommand (v : Word) (s : State) : State :=
  s.raise (if s.busy then .commandWhileBusy else .illegalCommand) v

/-- `LCMD`, the last accepted command word (R19). -/
def lastCommand (s : State) : Word := latchWord s.opk s.wl s.regl

/-- The value of `HostRead(off)` at a word offset (the table of R151; reserved offsets read 0, R152). -/
def hostValue (off : Offset) (s : State) : Word :=
  if off = 0x00#7 then lastCommand s
  else if off = 0x04#7 then statusWord s
  else if off = 0x08#7 then s.finfo
  else if off = 0x0C#7 then s.data
  else if off = 0x10#7 then s.strlen.setWidth 32
  else if 0x20 ≤ off.toNat ∧ off.toNat ≤ 0x40 then stringWord s.strbuf ((off.toNat - 0x20) / 4)
  else 0#32

/-- `HostRead(off)` with its value put on the observation (R151, R8): no state of the block changes. -/
def State.logRead (off : Offset) (s : State) : State :=
  { s with reads := s.reads ++ [(off, hostValue off s)] }

/-- What `Reset` leaves in `TRACE`: kept, with `X` appended if the bus was `Owned` (R29, R192). -/
def traceAfterReset (s : State) : List Symbol :=
  if s.bus = .owned then s.trace ++ [.abandoned] else s.trace

/-- The `Reset` action (R190, R192, R193): every element of the block at its reset value but the ghost `TRACE`. What is
outside the block (the observed reads, the turns to come, the peripheral) is kept. -/
def State.resetAction (s : State) : State :=
  { State.reset with trace := traceAfterReset s, reads := s.reads, agenda := s.agenda, periph := s.periph }

end Sys2Proof.Machine
end

