-- ==== Sys2Proof/Machine/Scalar.lean ====
section
/-! DEFINITION. The scalar commands RD8, RD16, RD32 (R110 to R112): the write of the command word, and the commit of a
scalar operation (R113). The micro-steps between the two are in Machine/Sequencer.lean. -/

namespace Sys2Proof.Machine

/-- RD8 reg (R110): `OPK` = 0, `WL` = 1, one byte received. -/
def execRd8 (reg : Byte) (s : State) : Outcome := issue 0#1 1#3 reg s

/-- RD16 reg (R111): `OPK` = 0, `WL` = 2, two bytes received. -/
def execRd16 (reg : Byte) (s : State) : Outcome := issue 0#1 2#3 reg s

/-- RD32 reg (R112): `OPK` = 0, `WL` = 4, five bytes received, the first discarded. -/
def execRd32 (reg : Byte) (s : State) : Outcome := issue 0#1 4#3 reg s

/-- The result of a scalar operation: zero after a bus failure, else the assembled value (R113, R115). -/
def State.writeScalar (s : State) : State :=
  { s with data := if s.failf then 0#32 else assembleScalar s.wl s.rbuf }

end Sys2Proof.Machine
end

