-- ==== Sys2Proof/Machine/Strings.lean ====
section
/-! DEFINITION. The string command RDSTR (R130): the write of the command word, the end of phase A with the length
decoder (R132, R133), and the commit of a string operation (R136). -/

namespace Sys2Proof.Machine

/-- RDSTR reg (R130): `OPK` = 1, `WL` = 0, phase A receives one byte (R131). -/
def execRdstr (reg : Byte) (s : State) : Outcome := issue 1#1 0#3 reg s

/-- The end of a successful phase A: the byte received is the declared length; phase B receives `min(L, 32) + 1` bytes
(R96, R132, R133). -/
def State.startPhaseB (s : State) : State :=
  { s with llat := s.rbuf[0], n := clampLength s.rbuf[0] + 1#6, ph := .b, st := .start }

/-- The result of a string operation: empty after a bus failure, else `Lc` characters and zeros (R136, R137). -/
def State.writeString (s : State) : State :=
  if s.failf then { s with strlen := 0#6, strbuf := emptyBuffer }
  else { s with strlen := clampLength s.llat, strbuf := copyString (clampLength s.llat) s.rbuf }

end Sys2Proof.Machine
end

