-- ==== Sys2Proof/Machine/Dispatch.lean ====
section
/-! DEFINITION. One arm per command: what writing its word to `CMD` does (R154, R156). -/

namespace Sys2Proof.Machine

def exec (i : Instr) (s : State) : Host.Outcome State Fault Refusal :=
  match i with
  | .rd8 reg => Sys2Proof.Machine.execRd8 reg s
  | .rd16 reg => Sys2Proof.Machine.execRd16 reg s
  | .rd32 reg => Sys2Proof.Machine.execRd32 reg s
  | .rdstr reg => Sys2Proof.Machine.execRdstr reg s

end Sys2Proof.Machine
end

