-- ==== Sys2Proof/Machine/Sequencer.lean ====
section
/-! DEFINITION. The sequencer's micro-steps (R90 to R98): one bus symbol each, chosen by `ST` alone. -/

namespace Sys2Proof.Machine

/-- Step `START` (R90). -/
def stepStart (s : State) : State :=
  ((s.emit .start).setBus .owned).goto .addrw

/-- Transmit byte `b`: emit it with the peripheral's answer; go on by `onAck`, or fail (R91, R92, R94). -/
def transmit (b : Byte) (onAck : State → State) (s : State) : State :=
  match s.periph.ack with
  | (.ack, p) => onAck ({ s with periph := p }.emit (.sent b .ack))
  | (.nack, p) => ({ s with periph := p }.emit (.sent b .nack)).failTransaction

/-- Step `ADDRW` (R91). -/
def stepAddrW (s : State) : State :=
  transmit (addrWrite Config.periphAddr) (State.goto .cmdb) s

/-- Step `CMDB` (R92). -/
def stepCmdB (s : State) : State :=
  transmit s.regl (State.goto .rstart) s

/-- Step `RSTART` (R93): `BUS` stays `Owned`. -/
def stepRStart (s : State) : State :=
  (s.emit .restart).goto .addrr

/-- Where `ADDRR` goes on `ACK`: `CNT <- 0`, `SEQ <- (PH, DATAB)` (R94). -/
def State.openReceive (s : State) : State :=
  { s with cnt := 0#6, st := .datab }

/-- Step `ADDRR` (R94). -/
def stepAddrR (s : State) : State :=
  transmit (addrRead Config.periphAddr) State.openReceive s

/-- A byte stored by the `DATAB` step: `RBUF[CNT] <- d`, `CNT <- CNT + 1`, to `STOP` after the last (R95). -/
def State.storeByte (d : Byte) (s : State) : State :=
  { s with
    rbuf := s.rbuf.setIfInBounds s.cnt.toNat d
    cnt := s.cnt + 1#6
    st := if s.cnt + 1#6 = s.n then .stop else .datab }

/-- Step `DATAB` (R95), whose rule holds for 0 ≤ `CNT` < `N` ≤ 33; outside it the machine stops (log 9). -/
def stepDataB (s : State) : Outcome :=
  if s.cnt < s.n ∧ s.n ≤ 33#6 then
    match s.periph.slot with
    | (.byte d, p) =>
      .next (({ s with periph := p }.emit (.received d (masterAck (s.cnt + 1#6 = s.n)))).storeByte d)
    | (.timeout, p) => .next ({ s with periph := p }.emit .timeout).failTransaction
  else .fault .receiveOverrun

/-- The stop symbol releases the bus (R86, R96, R97). -/
def State.release (s : State) : State :=
  (s.emit .stop).setBus .free

/-- The commit (R97): the stop, the result registers of the command's kind, `BUSY <- 0`, `DONE <- 1`,
`SEQ <- (A, IDLE)`, all in one step (R55). -/
def State.commit (s : State) : State :=
  { (if s.opk = 0#1 then s.release.writeScalar else s.release.writeString).endOperation with ph := .a, st := .idle }

/-- Step `STOP`: the end of a successful phase A of a string (R96), or the commit (R97). -/
def stepStop (s : State) : State :=
  if s.opk = 1#1 ∧ s.ph = .a ∧ s.failf = false then s.release.startPhaseB else s.commit

/-- One micro-step of the controller; with `ST` = `IDLE` it has none (R98), and the machine's step then
answers the same state (DESIGN CHOICE, log 2). -/
def microStep (s : State) : Outcome :=
  match s.st with
  | .idle => .next s
  | .start => .next (stepStart s)
  | .addrw => .next (stepAddrW s)
  | .cmdb => .next (stepCmdB s)
  | .rstart => .next (stepRStart s)
  | .addrr => .next (stepAddrR s)
  | .datab => stepDataB s
  | .stop => .next (stepStop s)

end Sys2Proof.Machine
end

