-- ==== Sys2Proof/Machine/HostAccess.lean ====
section
/-! DEFINITION. The host actions (43_host_access.md): what a turn of the host does. -/

namespace Sys2Proof.Machine

/-- A write to `CMD`: a legal word runs its command, an illegal one is rejected (R154 to R156). -/
def writeCommand (v : Word) (s : State) : Outcome :=
  match decode v with
  | .ok i => exec i s
  | .error _ => .next (rejectCommand v s)

/-- `HostWrite(off, v)`: a command write at offset 0x00, nothing at every other word offset (R150, R153). -/
def hostWrite (off : Offset) (v : Word) (s : State) : Outcome :=
  if off.isWord then
    if off = 0x00#7 then writeCommand v s else .next s
  else .refused (.notWordOffset off)

/-- `HostRead(off)` (R151). -/
def hostRead (off : Offset) (s : State) : Outcome :=
  if off.isWord then .next (s.logRead off) else .refused (.notWordOffset off)

/-- `WAIT`: read `STATUS`; while `BUSY` = 1 let the controller move and poll again (R73; log 5). -/
def hostWait (s : State) : State :=
  if s.busy then { s.logRead 0x04#7 with agenda := .controller :: .wait :: s.agenda } else s.logRead 0x04#7

/-- What the turn `t` does, in a state from whose agenda it has been taken. -/
def takeTurn (t : Turn) (s : State) : Outcome :=
  match t with
  | .write off v => hostWrite off v s
  | .read off => hostRead off s
  | .wait => .next (hostWait s)
  | .reset => .next s.resetAction
  | .controller => microStep s

/-- `MNEMONIC reg` in a host program: shorthand for a write of its word to `CMD` (R73). -/
def commandTurn (i : Instr) : Turn := .write 0x00#7 (encode i)

/-- `readScalar(reg, w)` as a host program (R160). -/
def readScalarCall (reg : Byte) (w : Word) : List Turn :=
  [.write 0x00#7 (w <<< 8 ||| reg.setWidth 32), .wait, .read 0x0C#7]

/-- `readString(reg)` as a host program (R160). -/
def readStringCall (reg : Byte) : List Turn :=
  [.write 0x00#7 (0x800#32 ||| reg.setWidth 32), .wait, .read 0x10#7, .read 0x20#7, .read 0x24#7, .read 0x28#7, .read 0x2C#7, .read 0x30#7,
    .read 0x34#7, .read 0x38#7, .read 0x3C#7, .read 0x40#7]

/-- The bytes of a word, least significant first. -/
def wordBytes (w : Word) : List Byte :=
  [w.extractLsb' 0 8, w.extractLsb' 8 8, w.extractLsb' 16 8, w.extractLsb' 24 8]

/-- What `readString` returns from the words it read: the characters and the terminator (R160). -/
def unpackString (len : Nat) (words : List Word) : List Byte :=
  (words.flatMap wordBytes).take (len + 1)

end Sys2Proof.Machine
end

