-- ==== Sys2Proof/Machine/Step.lean ====
section
/-! DEFINITION. One step: the next turn of the agenda, or, when the host has none left, a micro-step of the controller. -/

namespace Sys2Proof.Machine

/-- One atomic event (R56). -/
def step (s : State) : Host.Outcome State Fault Refusal :=
  match s.agenda with
  | [] => microStep s
  | t :: rest => takeTurn t { s with agenda := rest }

/-- `s` with the command of the low `nbits` bits of `w` as the host's next action, a write to `CMD` (log 4). -/
def State.withFetchWord (s : State) (nbits w : Nat) : State :=
  { s with agenda := .write 0x00#7 (BitVec.ofNat 32 (w % 2 ^ nbits)) :: s.agenda }

end Sys2Proof.Machine
end

