-- ==== Sys2Proof/Machine/Transaction.lean ====
section
/-! DEFINITION. The big-step description: the register-addressed read transaction `MemRead` (R84) and the four
operations as the pseudocode of R110, R111, R112 and R130 gives them. No step calls them: they are the clear form that
the micro-steps are held against (R100). -/

namespace Sys2Proof.Machine

/-- What a transaction gives: `ok`, the bytes in the order received (no meaning when `ok` is false), the symbols it put
on the bus, and the peripheral after it. -/
structure ReadResult where
  ok : Bool
  bytes : List Byte
  symbols : List Symbol
  periph : Periph
  deriving DecidableEq, Repr

/-- The symbols and bytes of a result with one more received byte before them. -/
def ReadResult.after (d : Byte) (m : Ack) (r : ReadResult) : ReadResult :=
  { r with bytes := d :: r.bytes, symbols := .received d m :: r.symbols }

/-- The receive loop of `MemRead` with `k` bytes to go, and the stop that ends it (R84). -/
def receiveLoop : Nat → Periph → ReadResult
  | 0, p => ⟨true, [], [.stop], p⟩
  | k + 1, p =>
    match p.slot with
    | (.byte d, p') => (receiveLoop k p').after d (masterAck (k == 0))
    | (.timeout, p') => ⟨false, [], [.timeout, .stop], p'⟩

/-- A byte transmitted in `MemRead`: on `NACK` the stop ends the transaction (R84). -/
def sendThen (b : Byte) (rest : Periph → ReadResult) (p : Periph) : ReadResult :=
  match p.ack with
  | (.ack, p') => { rest p' with symbols := .sent b .ack :: (rest p').symbols }
  | (.nack, p') => ⟨false, [], [.sent b .nack, .stop], p'⟩

/-- The read phase of `MemRead`: repeated start, address byte, receive slots (R84). -/
def readPhase (n : Nat) (p : Periph) : ReadResult :=
  let r := sendThen (addrRead Config.periphAddr) (receiveLoop n) p
  { r with symbols := .restart :: r.symbols }

/-- `MemRead(reg, n)` (R84). -/
def memRead (reg : Byte) (n : Nat) (p : Periph) : ReadResult :=
  let r := sendThen (addrWrite Config.periphAddr) (sendThen reg (readPhase n)) p
  { r with symbols := .start :: r.symbols }

/-- The result of a scalar operation: the value for `DATA`, the symbols, the peripheral after. -/
structure ScalarResult where
  value : Word
  symbols : List Symbol
  periph : Periph
  deriving DecidableEq, Repr

/-- RD8 as one event (R110). -/
def bigRd8 (reg : Byte) (p : Periph) : ScalarResult :=
  let m := memRead reg 1 p
  ⟨if m.ok then (m.bytes.getD 0 0#8).setWidth 32 else 0#32, m.symbols, m.periph⟩

/-- RD16 as one event (R111). -/
def bigRd16 (reg : Byte) (p : Periph) : ScalarResult :=
  let m := memRead reg 2 p
  ⟨if m.ok then (m.bytes.getD 0 0#8).setWidth 32 ||| (m.bytes.getD 1 0#8).setWidth 32 <<< 8 else 0#32, m.symbols, m.periph⟩

/-- RD32 as one event: five bytes received, `r[0]` discarded (R112). -/
def bigRd32 (reg : Byte) (p : Periph) : ScalarResult :=
  let m := memRead reg 5 p
  ⟨if m.ok then
      (m.bytes.getD 1 0#8).setWidth 32 ||| (m.bytes.getD 2 0#8).setWidth 32 <<< 8
        ||| (m.bytes.getD 3 0#8).setWidth 32 <<< 16 ||| (m.bytes.getD 4 0#8).setWidth 32 <<< 24
    else 0#32, m.symbols, m.periph⟩

/-- The result of a string operation: the characters, the symbols, the peripheral after. -/
structure StringResult where
  chars : List Byte
  symbols : List Symbol
  periph : Periph
  deriving DecidableEq, Repr

/-- RDSTR as one event: phase A for the length, then phase B, unless a phase fails (R130, R137). -/
def bigRdstr (reg : Byte) (p : Periph) : StringResult :=
  let a := memRead reg 1 p
  if a.ok then
    let q := memRead reg (min (a.bytes.getD 0 0#8).toNat maxStr + 1) a.periph
    ⟨if q.ok then q.bytes.drop 1 else [], a.symbols ++ q.symbols, q.periph⟩
  else ⟨[], a.symbols, a.periph⟩

end Sys2Proof.Machine
end

