-- ==== Sys2Proof/Safety.lean ====
section
/-! DEFINITION. What statements are said in: legality, the invariant of the block, the grammar of the bus trace, the
observation, and runs of the controller. -/

namespace Sys2Proof.Machine

/-- `Legal(w)` (R65). -/
abbrev Legal (w : Word) : Prop :=
  fieldRsv w = 0#20 ∧
    ((fieldStr w = 0#1 ∧ (fieldWidth w = 1#3 ∨ fieldWidth w = 2#3 ∨ fieldWidth w = 4#3)) ∨ (fieldStr w = 1#1 ∧ fieldWidth w = 0#3))

/-- `OPK` and `WL` are those of a legal command (R20, R61, R65). -/
abbrev FieldsLegal (opk : BitVec 1) (wl : BitVec 3) : Prop :=
  (opk = 0#1 ∧ (wl = 1#3 ∨ wl = 2#3 ∨ wl = 4#3)) ∨ (opk = 1#1 ∧ wl = 0#3)

/-- `N` is what R21 says for the transaction under way: `N0` of the command in phase A, `min(L, 32) + 1` in phase B. -/
def CountRight (ph : Phase) (opk : BitVec 1) (wl : BitVec 3) (llat : Byte) (n : BitVec 6) : Prop :=
  (ph = .a → n = firstCount opk wl) ∧ (ph = .b → n = clampLength llat + 1#6)

/-- The invariant of the block, each part a rule of 10_state.md. -/
structure Inv (s : State) : Prop where
  /-- `BUSY` = 1 if and only if `SEQ` is not `IDLE` (R11). -/
  busy_iff : s.busy = true ↔ s.st ≠ .idle
  /-- `BUSY` and `DONE` are never both 1 (R11, R12). -/
  busy_done : s.busy = true → s.done = false
  /-- `BUS` is `Owned` from the `START` step to the `STOP` step (R28). -/
  bus_iff : s.bus = .owned ↔ s.st ≠ .idle ∧ s.st ≠ .start
  /-- When `ST` = `IDLE`, `PH` is A (R22). -/
  idle_phase : s.st = .idle → s.ph = .a
  /-- Phase B is a string's (R22). -/
  phase_string : s.ph = .b → s.opk = 1#1
  /-- With `FAULT` = 1 the cause is IllegalCommand or CommandWhileBusy (R13). -/
  record : s.fault = true → s.cause = 1#2 ∨ s.cause = 2#2
  /-- `FAULT` = 0 goes with no record (R13, R19). -/
  no_record : s.fault = false → s.cause = 0#2 ∧ s.finfo = 0#32
  /-- A CommandWhileBusy record needs an accepted command (R172). -/
  record_busy : s.cause = 2#2 → s.busy = true ∨ s.done = true
  /-- `STRLEN` is 0 to 32 (R15). -/
  strlen_le : s.strlen.toNat ≤ 32
  /-- 0x00 from the terminator to `STRBUF[32]` (R16). -/
  string_tail : ∀ i : Fin 33, s.strlen.toNat ≤ i.val → byteAt s.strbuf i.val = 0#8
  /-- `LCMD` is 0 or a legal command word (R19). -/
  latch : FieldsLegal s.opk s.wl ∨ (s.opk = 0#1 ∧ s.wl = 0#3 ∧ s.regl = 0#8)
  /-- During an operation the latched command is legal (R20). -/
  busy_latch : s.busy = true → FieldsLegal s.opk s.wl
  /-- During an operation `N` counts the bytes of the transaction (R21). -/
  busy_count : s.busy = true → CountRight s.ph s.opk s.wl s.llat s.n
  /-- `N` and `CNT` never exceed 33 (R21, R24). -/
  counts : s.n.toNat ≤ 33 ∧ s.cnt.toNat ≤ 33
  /-- In a receive slot `CNT` < `N` (R95). -/
  slot_count : s.st = .datab → s.cnt < s.n
  /-- A transaction that did not fail stops after `N` bytes (R95, R101). -/
  stop_count : s.st = .stop → s.failf = false → s.cnt = s.n
  /-- `FAILF` = 1 only on the way to, and after, the end of the operation (R23, R27). -/
  failed_at : s.failf = true → s.st = .stop ∨ s.st = .idle

/-- What a bus symbol does to a transaction in the state `q`, `start` standing for no transaction; none where the
symbol cannot come (R85, R101). `X` ends any transaction that has begun (R192). -/
def follow : SeqState → Symbol → Option SeqState
  | .start, .start => some .addrw
  | .addrw, .sent b a => if b = addrWrite Config.periphAddr then some (if a = .ack then .cmdb else .stop) else none
  | .cmdb, .sent _ a => some (if a = .ack then .rstart else .stop)
  | .rstart, .restart => some .addrr
  | .addrr, .sent b a => if b = addrRead Config.periphAddr then some (if a = .ack then .datab else .stop) else none
  | .datab, .received _ m => some (if m = .ack then .datab else .stop)
  | .datab, .timeout => some .stop
  | .stop, .stop => some .start
  | .addrw, .abandoned | .cmdb, .abandoned | .rstart, .abandoned | .addrr, .abandoned | .datab, .abandoned
  | .stop, .abandoned => some .start
  | _, _ => none

/-- The state of the transaction grammar after a trace, none where the trace does not follow it. -/
def followTrace (t : List Symbol) : Option SeqState :=
  t.foldl (fun q y => q.bind (follow · y)) (some .start)

/-- Where the grammar stands when the sequencer is at `ST`: no transaction in `IDLE`, as in `START`. -/
def grammarAt : SeqState → SeqState
  | .idle => .start
  | q => q

/-- The trace is a sequence of transactions of the shapes of R85, the last one as far as the sequencer is. -/
abbrev TraceInv (s : State) : Prop := followTrace s.trace = some (grammarAt s.st)

/-- The symbols of a transaction up to its receive slots, every transmitted byte acknowledged (R85). -/
def acknowledgedHead (reg : Byte) : List Symbol :=
  [.start, .sent (addrWrite Config.periphAddr) .ack, .sent reg .ack, .restart, .sent (addrRead Config.periphAddr) .ack]

/-- Bytes received and acknowledged, as symbols. -/
def acknowledgedBytes (ds : List Byte) : List Symbol := ds.map fun d => .received d .ack

/-- The observation of R8. -/
def observe (s : State) : List Symbol × List (Offset × Word) := (s.trace, s.reads)

/-- A host program is over when its actions are exhausted and `BUSY` = 0 (R8). -/
def ProgramOver (s : State) : Prop := s.agenda = [] ∧ s.busy = false

/-- `k` steps of the machine lead from `s` to `t`. -/
def Runs (k : Nat) (s t : State) : Prop := Host.Core.run Sys2Proof.core k s = .next t

/-- The next turn is the controller's: no turn of the host is pending, or the scheduler names the controller. -/
abbrev ControllerNext (s : State) : Prop := s.agenda = [] ∨ s.agenda.head? = some .controller

/-- The next turn is a `Reset`. -/
abbrev ResetNext (s : State) : Prop := s.agenda.head? = some .reset

/-- `t` has the registers of `s` that a scalar operation has no part in (R18, R110): the string registers, the fault
record, `LLAT`, and what is outside the block. -/
structure ScalarFrame (s t : State) : Prop where
  strlen : t.strlen = s.strlen
  strbuf : t.strbuf = s.strbuf
  fault : t.fault = s.fault
  cause : t.cause = s.cause
  finfo : t.finfo = s.finfo
  llat : t.llat = s.llat
  reads : t.reads = s.reads
  agenda : t.agenda = s.agenda

/-- `t` has the registers of `s` that a string operation has no part in (R18, R130). -/
structure StringFrame (s t : State) : Prop where
  data : t.data = s.data
  fault : t.fault = s.fault
  cause : t.cause = s.cause
  finfo : t.finfo = s.finfo
  reads : t.reads = s.reads
  agenda : t.agenda = s.agenda

/-- An operation of the command `i` is over in `t`: committed, idle, bus free, the command still latched (R97, R19). -/
structure Committed (i : Instr) (t : State) : Prop where
  busy : t.busy = false
  done : t.done = true
  st : t.st = .idle
  ph : t.ph = .a
  bus : t.bus = .free
  command : lastCommand t = encode i

/-- The scalar command `i` runs as `big` says: with `BUSY` = 0 and the host silent, its word is accepted, and in at most
`count + 6` micro-steps the operation commits with the value, the symbols and the peripheral of `big`; `RBUF` past the
`count` bytes received, and the frame, are unchanged (R99, R110 to R112). -/
def ScalarRuns (i : Instr) (count : Nat) (big : Periph → ScalarResult) : Prop :=
  ∀ s : State, s.busy = false → s.agenda = [] →
    ∃ t₀ k t, exec i s = .next t₀ ∧ t₀.busy = true ∧ t₀.done = false ∧ t₀.data = s.data ∧ t₀.trace = s.trace ∧
      k ≤ count + 6 ∧ Runs k t₀ t ∧ t.data = (big s.periph).value ∧ t.trace = s.trace ++ (big s.periph).symbols ∧
      t.periph = (big s.periph).periph ∧ Committed i t ∧ ScalarFrame s t ∧
      ∀ j, count ≤ j → byteAt t.rbuf j = byteAt s.rbuf j

end Sys2Proof.Machine
end

