-- ==== Sys2Proof/Certificates/Slice0/Obligations.lean ====
section
/-! DEFINITION. The statements for the provers, from the numbered rules of the spec. -/

open Sys2Proof Sys2Proof.Machine

/-- A few words of 95_test_vectors.md 3.1, written out there from the encoding (R62, R67), decode as it says. -/
def Obligations.SpecWordsDecode : Prop :=
  decode 0x0000010E#32 = .ok (.rd8 0x0E#8) ∧ decode 0x00000208#32 = .ok (.rd16 0x08#8) ∧
  decode 0x00000450#32 = .ok (.rd32 0x50#8) ∧ decode 0x00000821#32 = .ok (.rdstr 0x21#8) ∧
  decode 0x00000308#32 = .error .unsupportedWidth ∧ decode 0x00000908#32 = .error .widthWithString ∧
  decode 0x80000208#32 = .error .reservedBits

/-- Decoding the word of a command gives the command back, for every operand (R62, R67). -/
def Obligations.DecodeOfEncode : Prop := ∀ i : Instr, decode (encode i) = .ok i

/-- A word that decodes to a command is that command's word: no bit is dropped (R62, R67). -/
def Obligations.EncodeOfDecode : Prop := ∀ (w : Word) (i : Instr), decode w = .ok i → encode i = w

/-- R65: the legal words are those that decode to a command, which are those that match a row of R62; of the 16 values of
w[11:8] four are legal. -/
def Obligations.LegalWordsDecode : Prop :=
  (∀ w : Word, Legal w ↔ ∃ i, decode w = .ok i) ∧
  (∀ w : Word, Legal w ↔ ∃ i, w &&& 0xFFFFFF00#32 = matchWord i) ∧
  ∀ (x : BitVec 4) (r : Byte), Legal (0#20 ++ x ++ r) ↔ x = 1#4 ∨ x = 2#4 ∨ x = 4#4 ∨ x = 8#4

/-- The class under which an illegal word is rejected (R66), the reserved bits first (R67). -/
def Obligations.IllegalWordClasses : Prop :=
  ∀ w : Word,
    (decode w = .error .reservedBits ↔ fieldRsv w ≠ 0#20) ∧
    (decode w = .error .unsupportedWidth ↔
      fieldRsv w = 0#20 ∧ fieldStr w = 0#1 ∧ fieldWidth w ≠ 1#3 ∧ fieldWidth w ≠ 2#3 ∧ fieldWidth w ≠ 4#3) ∧
    (decode w = .error .widthWithString ↔ fieldRsv w = 0#20 ∧ fieldStr w = 1#1 ∧ fieldWidth w ≠ 0#3)

/-- R72: a line `MNEMONIC reg` with a number 0 to 255 or a symbolic code assembles to a word that decodes to that command,
and a number above 255 is refused. -/
def Obligations.AssembledLinesDecode : Prop :=
  (∀ (m : Mnemonic) (n : Nat), n ≤ 255 →
    ∃ w, assemble ⟨m, .number n⟩ = some w ∧ decode w = .ok (m.instr (BitVec.ofNat 8 n)) ∧ w.toNat % 256 = n) ∧
  (∀ (m : Mnemonic) (f : Field),
    ∃ w, assemble ⟨m, .code f⟩ = some w ∧ decode w = .ok (m.instr (Config.commandCode f))) ∧
  ∀ (m : Mnemonic) (n : Nat), 255 < n → assemble ⟨m, .number n⟩ = none

/-- Every pseudo-instruction of R74 assembles to a command with the field's code: RDSTR for the two names, RD8 for the
state of charge, RD16 for all others, RD32 for none. -/
def Obligations.PseudoInstructionsExpand : Prop :=
  ∀ f : Field, ∃ w, assemble f.expand = some w ∧
    decode w = .ok (if f = .modelName ∨ f = .manufacturerName then .rdstr (Config.commandCode f)
      else if f = .absSoc then .rd8 (Config.commandCode f) else .rd16 (Config.commandCode f))

/-- R69: the address bytes are PERIPH_ADDR * 2 and PERIPH_ADDR * 2 + 1. -/
def Obligations.AddressBytes : Prop :=
  ∀ a : BitVec 7, (addrWrite a).toNat = a.toNat * 2 ∧ (addrRead a).toNat = a.toNat * 2 + 1

/-- A step whose next turn writes a legal word to `CMD` runs the decoded command in the state with that turn taken
(R150, R58). -/
def Obligations.StepRunsDecodedCommand : Prop :=
  ∀ (s : State) (v : Word) (i : Instr) (rest : List Turn),
    s.agenda = .write 0x00#7 v :: rest → decode v = .ok i → step s = exec i { s with agenda := rest }

/-- With the word of a command placed as the next command write, the next step runs that command, from any state. -/
def Obligations.FetchWordRunsCommand : Prop :=
  ∀ (s : State) (i : Instr), step (s.withFetchWord 32 (encode i).toNat) = exec i s

/-- R154: a legal word written to `CMD` with `BUSY` = 0 is accepted, and nothing but what the rule names changes. -/
def Obligations.LegalWriteAccepted : Prop :=
  ∀ (s : State) (v : Word), s.busy = false → Legal v →
    hostWrite 0x00#7 v s = .next { s with
      opk := v.extractLsb' 11 1
      wl := v.extractLsb' 8 3
      regl := v.extractLsb' 0 8
      n := if v.extractLsb' 11 1 = 1#1 then 1#6
        else if v.extractLsb' 8 3 = 4#3 then 5#6 else (v.extractLsb' 8 3).setWidth 6
      failf := false
      busy := true
      done := false
      ph := .a
      st := .start }

/-- Each of the four commands, run with `BUSY` = 0, answers a next state: operation begun, its word latched, the number of
bytes of its first transaction set, every other register as it was (R154, R63), whatever `DONE` and `FAULT` are (R157). -/
def Obligations.CommandsBegin : Prop :=
  ∀ (s : State) (reg : Byte), s.busy = false →
    exec (.rd8 reg) s = .next { s with
      opk := 0#1, wl := 1#3, regl := reg, n := 1#6, failf := false, busy := true, done := false, ph := .a, st := .start } ∧
    exec (.rd16 reg) s = .next { s with
      opk := 0#1, wl := 2#3, regl := reg, n := 2#6, failf := false, busy := true, done := false, ph := .a, st := .start } ∧
    exec (.rd32 reg) s = .next { s with
      opk := 0#1, wl := 4#3, regl := reg, n := 5#6, failf := false, busy := true, done := false, ph := .a, st := .start } ∧
    exec (.rdstr reg) s = .next { s with
      opk := 1#1, wl := 0#3, regl := reg, n := 1#6, failf := false, busy := true, done := false, ph := .a, st := .start }

/-- R155: an illegal word written with `BUSY` = 0 raises IllegalCommand: the record of the first fault, nothing else. -/
def Obligations.IllegalWriteRecorded : Prop :=
  ∀ (s : State) (v : Word), s.busy = false → ¬ Legal v →
    hostWrite 0x00#7 v s = .next (if s.fault then s else { s with fault := true, cause := 1#2, finfo := v })

/-- R156: any word written with `BUSY` = 1, legal or not, is dropped with CommandWhileBusy: the record of the first fault,
nothing else. -/
def Obligations.BusyWriteDropped : Prop :=
  ∀ (s : State) (v : Word), s.busy = true →
    hostWrite 0x00#7 v s = .next (if s.fault then s else { s with fault := true, cause := 2#2, finfo := v })

/-- R174: fault entry records the first fault only, and nothing else is saved or changed. -/
def Obligations.FaultEntry : Prop :=
  ∀ (s : State) (f : CommandFault) (v : Word),
    (s.fault = true → s.raise f v = s) ∧
    (s.fault = false → s.raise f v =
      { s with fault := true, cause := (match f with | .illegalCommand => 1#2 | .commandWhileBusy => 2#2), finfo := v })

/-- R175: the record of the first fault stays through every step but a `Reset`. -/
def Obligations.FaultRecordStays : Prop :=
  ∀ s t : State, s.fault = true → ¬ ResetNext s → step s = .next t →
    t.fault = true ∧ t.cause = s.cause ∧ t.finfo = s.finfo

/-- R170: `FAULT` is set by a write to `CMD` and by nothing else, with the cause and the word the table gives. -/
def Obligations.FaultOnlyFromCommandWrite : Prop :=
  ∀ s t : State, step s = .next t → s.fault = false → t.fault = true →
    ∃ v rest, s.agenda = .write 0x00#7 v :: rest ∧ t.finfo = v ∧
      ((s.busy = true ∧ t.cause = 2#2) ∨ (s.busy = false ∧ ¬ Legal v ∧ t.cause = 1#2))

/-- The frame of the four commands: whatever the state, a command's write leaves every result register, the receive
buffer, `CNT`, `LLAT`, the bus, the trace and what is outside the block as they were; while `BUSY` = 1 the latched command,
the sequencer and the flags too (R154, R156). -/
def Obligations.CommandFrame : Prop :=
  ∀ (i : Instr) (s t : State), exec i s = .next t →
    t.data = s.data ∧ t.strlen = s.strlen ∧ t.strbuf = s.strbuf ∧ t.rbuf = s.rbuf ∧ t.cnt = s.cnt ∧ t.llat = s.llat ∧
    t.bus = s.bus ∧ t.trace = s.trace ∧ t.reads = s.reads ∧ t.agenda = s.agenda ∧ t.periph = s.periph ∧ t.busy = true ∧
    (s.busy = true → t.done = s.done ∧ t.opk = s.opk ∧ t.wl = s.wl ∧ t.regl = s.regl ∧ t.n = s.n ∧ t.ph = s.ph ∧
      t.st = s.st ∧ t.failf = s.failf) ∧
    (s.busy = false → t.fault = s.fault ∧ t.cause = s.cause ∧ t.finfo = s.finfo)

/-- R151: `HostRead` at a word offset answers the value of the table, which goes on the observation, and changes nothing. -/
def Obligations.HostReadTable : Prop :=
  (∀ (s : State) (off : Offset), off.isWord = true →
    hostRead off s = .next { s with reads := s.reads ++ [(off, hostValue off s)] }) ∧
  ∀ s : State,
    hostValue 0x00#7 s = 0#20 ++ s.opk ++ s.wl ++ s.regl ∧
    (hostValue 0x04#7 s).toNat = s.busy.toNat + 2 * s.done.toNat + 4 * s.fault.toNat + 16 * s.cause.toNat ∧
    hostValue 0x08#7 s = s.finfo ∧ hostValue 0x0C#7 s = s.data ∧ (hostValue 0x10#7 s).toNat = s.strlen.toNat ∧
    (∀ k : Fin 9, hostValue (BitVec.ofNat 7 (0x20 + 4 * k.val)) s = stringWord s.strbuf k.val) ∧
    ∀ off : Offset, 0x14 ≤ off.toNat → (off.toNat < 0x20 ∨ 0x40 < off.toNat) → hostValue off s = 0#32

/-- R17: at offset 0x20 + 4k, k = 0 to 8, byte j of the word read is `STRBUF[4k + j]`, and 0x00 past index 32; so `STRW[8]`
is `STRBUF[32]`, zero-extended. A write there changes nothing. -/
def Obligations.StringWordBytes : Prop :=
  ∀ s : State,
    (∀ k j : Nat, k ≤ 8 → j < 4 → (hostValue (BitVec.ofNat 7 (0x20 + 4 * k)) s).extractLsb' (8 * j) 8 =
      if h : 4 * k + j < 33 then s.strbuf[4 * k + j] else 0#8) ∧
    hostValue 0x40#7 s = s.strbuf[32].setWidth 32 ∧
    ∀ (k : Nat) (v : Word), k ≤ 8 → hostWrite (BitVec.ofNat 7 (0x20 + 4 * k)) v s = .next s

/-- R153: a `HostWrite` at any word offset but 0x00 changes nothing and raises nothing. -/
def Obligations.OtherWritesIgnored : Prop :=
  ∀ (s : State) (off : Offset) (v : Word), off.isWord = true → off ≠ 0x00#7 → hostWrite off v s = .next s

/-- R47: a host access at an offset that is not one of the 32 word offsets is refused at the boundary, by the name this
model chose (log 7). -/
def Obligations.NarrowAccessRefused : Prop :=
  ∀ (s : State) (off : Offset) (v : Word), ¬ 4 ∣ off.toNat →
    hostWrite off v s = .refused (.notWordOffset off) ∧ hostRead off s = .refused (.notWordOffset off)

/-- R190: `Reset` sets every state element to the value of R36; `TRACE` is kept, with `X` appended where the bus was owned
(R29, R192). -/
def Obligations.ResetActionValues : Prop :=
  ∀ (s : State) (rest : List Turn), s.agenda = .reset :: rest →
    ∃ t, step s = .next t ∧ t.busy = false ∧ t.done = false ∧ t.fault = false ∧ t.cause = 0#2 ∧ t.finfo = 0#32 ∧
      t.data = 0#32 ∧ t.strlen = 0#6 ∧ (∀ j < 33, byteAt t.strbuf j = 0#8) ∧ t.opk = 0#1 ∧ t.wl = 0#3 ∧ t.regl = 0#8 ∧
      t.n = 0#6 ∧ t.cnt = 0#6 ∧ t.llat = 0#8 ∧ t.ph = .a ∧ t.st = .idle ∧ (∀ j < 33, byteAt t.rbuf j = 0#8) ∧
      t.failf = false ∧ t.bus = .free ∧
      (s.bus = .owned → t.trace = s.trace ++ [.abandoned]) ∧ (s.bus = .free → t.trace = s.trace)

/-- R191, vector H1: after power-on and after `Reset` every offset reads 0. -/
def Obligations.ResetReadsZero : Prop :=
  ∀ (s : State) (off : Offset), hostValue off State.reset = 0#32 ∧ hostValue off s.resetAction = 0#32

/-- Idle with the host silent the machine keeps its state, bus symbols included, for any number of steps. R98 says that the
idle controller has no step and emits nothing, R191 that the block starts nothing by itself; that a step then answers the same
state is this model's DESIGN CHOICE (log 2), which no rule says. -/
def Obligations.IdleBlockIsSilent : Prop :=
  ∀ (s : State) (k : Nat), s.st = .idle → s.agenda = [] → Runs k s s

/-- R90, R93: the steps that ask the peripheral nothing. -/
def Obligations.StartAndRestartSteps : Prop :=
  (∀ s : State, s.st = .start →
    microStep s = .next { s with trace := s.trace ++ [.start], bus := .owned, st := .addrw }) ∧
  ∀ s : State, s.st = .rstart → microStep s = .next { s with trace := s.trace ++ [.restart], st := .addrr }

/-- R91, R92, R94: the steps that transmit a byte, for either answer of the peripheral. -/
def Obligations.TransmitSteps : Prop :=
  ∀ (s : State) (a : Ack) (p : Periph), s.periph.ack = (a, p) →
    (s.st = .addrw → microStep s = .next { s with
      periph := p
      trace := s.trace ++ [.sent (addrWrite Config.periphAddr) a]
      failf := if a = .nack then true else s.failf
      st := if a = .nack then .stop else .cmdb }) ∧
    (s.st = .cmdb → microStep s = .next { s with
      periph := p
      trace := s.trace ++ [.sent s.regl a]
      failf := if a = .nack then true else s.failf
      st := if a = .nack then .stop else .rstart }) ∧
    (s.st = .addrr → microStep s = .next { s with
      periph := p
      trace := s.trace ++ [.sent (addrRead Config.periphAddr) a]
      failf := if a = .nack then true else s.failf
      cnt := if a = .nack then s.cnt else 0#6
      st := if a = .nack then .stop else .datab })

/-- R95: the receive slot, where 0 ≤ `CNT` < `N` ≤ 33, for either answer of the peripheral; the master answers NACK to the
last byte and ACK to the others (R83). -/
def Obligations.ReceiveStep : Prop :=
  ∀ (s : State) (p : Periph), s.st = .datab → s.cnt.toNat < s.n.toNat → s.n.toNat ≤ 33 →
    (∀ d : Byte, s.periph.slot = (.byte d, p) → ∃ received : Buffer,
      (∀ j < 33, byteAt received j = if j = s.cnt.toNat then d else byteAt s.rbuf j) ∧
      microStep s = .next { s with
        periph := p
        trace := s.trace ++ [.received d (if s.cnt.toNat + 1 = s.n.toNat then .nack else .ack)]
        rbuf := received
        cnt := s.cnt + 1#6
        st := if s.cnt.toNat + 1 = s.n.toNat then .stop else .datab }) ∧
    (s.periph.slot = (.timeout, p) →
      microStep s = .next { s with periph := p, trace := s.trace ++ [.timeout], failf := true, st := .stop })

/-- R96: the end of a successful phase A of a string read goes on to phase B, `BUSY` and every result register kept. -/
def Obligations.PhaseAEnds : Prop :=
  ∀ s : State, s.st = .stop → s.opk = 1#1 → s.ph = .a → s.failf = false →
    microStep s = .next { s with
      trace := s.trace ++ [.stop]
      bus := .free
      llat := s.rbuf[0]
      n := BitVec.ofNat 6 (min (s.rbuf[0]).toNat 32 + 1)
      ph := .b
      st := .start }

/-- R97, R113: the commit of a scalar operation, successful or failed. -/
def Obligations.ScalarCommit : Prop :=
  ∀ s : State, s.st = .stop → s.opk = 0#1 → s.failf = true ∨ s.wl = 1#3 ∨ s.wl = 2#3 ∨ s.wl = 4#3 →
    microStep s = .next { s with
      trace := s.trace ++ [.stop]
      bus := .free
      data := if s.failf = true then 0#32
        else if s.wl = 1#3 then s.rbuf[0].setWidth 32
        else if s.wl = 2#3 then (s.rbuf[1] ++ s.rbuf[0]).setWidth 32
        else s.rbuf[4] ++ s.rbuf[3] ++ s.rbuf[2] ++ s.rbuf[1]
      busy := false
      done := true
      ph := .a
      st := .idle }

/-- R97, R136: the commit of a string operation, after phase B or after a failure. -/
def Obligations.StringCommit : Prop :=
  ∀ s : State, s.st = .stop → s.opk = 1#1 → s.ph = .b ∨ s.failf = true →
    ∃ chars : Buffer,
      microStep s = .next { s with
        trace := s.trace ++ [.stop]
        bus := .free
        strlen := if s.failf = true then 0#6 else BitVec.ofNat 6 (min s.llat.toNat 32)
        strbuf := chars
        busy := false
        done := true
        ph := .a
        st := .idle } ∧
      ∀ j < 33, byteAt chars j =
        if s.failf = true then 0#8 else if j < min s.llat.toNat 32 then byteAt s.rbuf (j + 1) else 0#8

/-- R116: the value of each width is the sum of its payload bytes times powers of 256, fits the width, and is the bitwise or
of the shifted bytes. -/
def Obligations.AssemblerSum : Prop :=
  ∀ rbuf : Buffer,
    ((assembleScalar 1#3 rbuf).toNat = (byteAt rbuf 0).toNat ∧ (assembleScalar 1#3 rbuf).toNat < 2 ^ 8 ∧
      assembleScalar 1#3 rbuf = (byteAt rbuf 0).setWidth 32) ∧
    ((assembleScalar 2#3 rbuf).toNat = (byteAt rbuf 0).toNat + (byteAt rbuf 1).toNat * 2 ^ 8 ∧
      (assembleScalar 2#3 rbuf).toNat < 2 ^ 16 ∧
      assembleScalar 2#3 rbuf = (byteAt rbuf 0).setWidth 32 ||| (byteAt rbuf 1).setWidth 32 <<< 8) ∧
    ((assembleScalar 4#3 rbuf).toNat = (byteAt rbuf 1).toNat + (byteAt rbuf 2).toNat * 2 ^ 8 +
        (byteAt rbuf 3).toNat * 2 ^ 16 + (byteAt rbuf 4).toNat * 2 ^ 24 ∧
      (assembleScalar 4#3 rbuf).toNat < 2 ^ 32 ∧
      assembleScalar 4#3 rbuf = (byteAt rbuf 1).setWidth 32 ||| (byteAt rbuf 2).setWidth 32 <<< 8 |||
        (byteAt rbuf 3).setWidth 32 <<< 16 ||| (byteAt rbuf 4).setWidth 32 <<< 24)

/-- R117: the payload byte i is (value >> 8i) & 0xFF: the assembler loses nothing. -/
def Obligations.AssemblerBytes : Prop :=
  ∀ (rbuf : Buffer) (w : BitVec 3) (i : Nat), w = 1#3 ∨ w = 2#3 ∨ w = 4#3 → i < w.toNat →
    (assembleScalar w rbuf >>> (8 * i)).setWidth 8 = byteAt rbuf (skipCount w + i)

/-- R133: Lc = min(L, 32), and phase B receives Lc + 1 bytes, 1 to 33. -/
def Obligations.LengthClamp : Prop :=
  ∀ l : Byte, (clampLength l).toNat = min l.toNat 32 ∧ (clampLength l + 1#6).toNat = min l.toNat 32 + 1 ∧
    (clampLength l + 1#6).toNat ≤ 33

/-- R85: the trace of a transaction has one of the five shapes, and no other. -/
def Obligations.TransactionShapes : Prop :=
  ∀ (reg : Byte) (n : Nat) (p : Periph), 1 ≤ n →
    ((memRead reg n p).ok = true ∧ ∃ (ds : List Byte) (d : Byte), ds.length + 1 = n ∧
      (memRead reg n p).bytes = ds ++ [d] ∧
      (memRead reg n p).symbols = acknowledgedHead reg ++ (acknowledgedBytes ds ++ [Symbol.received d Ack.nack, Symbol.stop])) ∨
    ((memRead reg n p).ok = false ∧
      ((memRead reg n p).symbols = [Symbol.start, Symbol.sent (addrWrite Config.periphAddr) Ack.nack, Symbol.stop] ∨
       (memRead reg n p).symbols =
         [Symbol.start, Symbol.sent (addrWrite Config.periphAddr) Ack.ack, Symbol.sent reg Ack.nack, Symbol.stop] ∨
       (memRead reg n p).symbols =
         [Symbol.start, Symbol.sent (addrWrite Config.periphAddr) Ack.ack, Symbol.sent reg Ack.ack, Symbol.restart,
           Symbol.sent (addrRead Config.periphAddr) Ack.nack, Symbol.stop] ∨
       ∃ ds : List Byte, ds.length < n ∧
         (memRead reg n p).symbols = acknowledgedHead reg ++ (acknowledgedBytes ds ++ [Symbol.timeout, Symbol.stop])))

/-- R100: from `START` with `FAILF` = 0 the micro-steps up to and including the next `STOP` step emit the trace of
`MemRead(REGL, N)` under the same answers; at the `STOP` step `FAILF` = 0 exactly when it is ok, and then its bytes are in
`RBUF`. -/
def Obligations.SequencerRunsMemRead : Prop :=
  ∀ s : State, s.st = .start → s.failf = false → s.agenda = [] → 1 ≤ s.n.toNat → s.n.toNat ≤ 33 →
    ∃ k t, k ≤ s.n.toNat + 5 ∧ Runs k s t ∧ t.st = .stop ∧ t.ph = s.ph ∧
      (∃ u, step t = .next u ∧ u.trace = s.trace ++ (memRead s.regl s.n.toNat s.periph).symbols) ∧
      (t.failf = false ↔ (memRead s.regl s.n.toNat s.periph).ok = true) ∧
      ((memRead s.regl s.n.toNat s.periph).ok = true →
        ∀ i < s.n.toNat, byteAt t.rbuf i = (memRead s.regl s.n.toNat s.periph).bytes.getD i 0#8) ∧
      t.periph = (memRead s.regl s.n.toNat s.periph).periph

/-- R110: RD8 accepted and run to its commit, whatever the peripheral answers: `DATA` is the one byte received,
zero-extended, or 0. -/
def Obligations.Rd8ReadsOneByte : Prop := ∀ reg : Byte, ScalarRuns (.rd8 reg) 1 (bigRd8 reg)

/-- R111: RD16 accepted and run to its commit: `DATA` is two bytes, the first the less significant, or 0. -/
def Obligations.Rd16ReadsTwoBytes : Prop := ∀ reg : Byte, ScalarRuns (.rd16 reg) 2 (bigRd16 reg)

/-- R112: RD32 accepted and run to its commit: five bytes received, the first discarded, `DATA` is the other four, or 0. -/
def Obligations.Rd32ReadsFourBytes : Prop := ∀ reg : Byte, ScalarRuns (.rd32 reg) 5 (bigRd32 reg)

/-- R130: RDSTR accepted and run to its commit, whatever the peripheral answers in its two phases: `STRLEN` and `STRBUF`
hold the characters of the big step, then zeros; at most Lc + 14 micro-steps (R99), 46 in all. -/
def Obligations.RdstrReadsString : Prop :=
  ∀ (reg : Byte) (s : State), s.busy = false → s.agenda = [] →
    ∃ t₀ k t, exec (.rdstr reg) s = .next t₀ ∧ t₀.busy = true ∧ t₀.done = false ∧ t₀.strlen = s.strlen ∧
      t₀.strbuf = s.strbuf ∧ t₀.trace = s.trace ∧
      k ≤ min ((memRead reg 1 s.periph).bytes.getD 0 0#8).toNat 32 + 14 ∧ Runs k t₀ t ∧
      t.strlen.toNat = (bigRdstr reg s.periph).chars.length ∧
      (∀ j < 33, byteAt t.strbuf j = (bigRdstr reg s.periph).chars.getD j 0#8) ∧
      t.trace = s.trace ++ (bigRdstr reg s.periph).symbols ∧ t.periph = (bigRdstr reg s.periph).periph ∧
      Committed (.rdstr reg) t ∧ StringFrame s t

/-- R141: a peripheral that acknowledges everything and supplies a length L ≤ 32 and then L characters yields those
characters and a terminator, regardless of L and of the duplicate length byte. -/
def Obligations.StringRoundTrip : Prop :=
  ∀ (s : State) (reg dup : Byte) (chars : List Byte) (acks : List Ack) (slots : List SlotAnswer),
    s.busy = false → s.agenda = [] → chars.length ≤ 32 → s.periph.acks = List.replicate 6 Ack.ack ++ acks →
    s.periph.slots = SlotAnswer.byte (BitVec.ofNat 8 chars.length) :: SlotAnswer.byte dup :: (chars.map SlotAnswer.byte ++ slots) →
    ∃ t₀ k t, exec (.rdstr reg) s = .next t₀ ∧ Runs k t₀ t ∧ t.busy = false ∧ t.done = true ∧
      t.strlen.toNat = chars.length ∧ (∀ j < chars.length, byteAt t.strbuf j = chars.getD j 0#8) ∧
      byteAt t.strbuf chars.length = 0#8

/-- R139: a declared length above 32 yields the first 32 characters and a terminator; the peripheral's further characters
are never transferred, and no fault is recorded. -/
def Obligations.LongStringTruncated : Prop :=
  ∀ (s : State) (reg len dup : Byte) (chars : List Byte) (acks : List Ack) (slots : List SlotAnswer),
    s.busy = false → s.agenda = [] → 32 < len.toNat → chars.length = 32 →
    s.periph.acks = List.replicate 6 Ack.ack ++ acks →
    s.periph.slots = SlotAnswer.byte len :: SlotAnswer.byte dup :: (chars.map SlotAnswer.byte ++ slots) →
    ∃ t₀ k t, exec (.rdstr reg) s = .next t₀ ∧ Runs k t₀ t ∧ t.busy = false ∧ t.done = true ∧ t.strlen = 32#6 ∧
      (∀ j < 32, byteAt t.strbuf j = chars.getD j 0#8) ∧ byteAt t.strbuf 32 = 0#8 ∧ t.periph.slots = slots ∧
      t.fault = s.fault

/-- R99: every operation ends: from any state of the invariant, with the host silent, `BUSY` = 0 within 46 micro-steps,
whatever the peripheral answers. -/
def Obligations.OperationsEnd : Prop :=
  ∀ s : State, Inv s → s.agenda = [] → ∃ k t, k ≤ 46 ∧ Runs k s t ∧ t.busy = false

/-- The invariant of the block, and the trace grammar, hold at power-on. -/
def Obligations.InvariantsAtReset : Prop := Inv State.reset ∧ TraceInv State.reset

/-- Every step, of the host or the controller, keeps the invariant of the block (R11 to R28). -/
def Obligations.StepKeepsInvariant : Prop := ∀ s t : State, Inv s → step s = .next t → Inv t

/-- Every step keeps the trace a sequence of transactions of R85's shapes, the last one as far as the sequencer is; a
transaction cut by `Reset` ends in `X` (R86, R192). -/
def Obligations.StepKeepsTraceGrammar : Prop :=
  ∀ s t : State, Inv s → TraceInv s → step s = .next t → TraceInv t

/-- In the invariant every step answers a next state, but one whose turn is a host access at no word offset, which is
refused: no command, answer or order of turns stops the block (R98, R176). The answer of an idle machine with a silent host,
the same state, and the name of the refusal are this model's choices (log 2, log 7). -/
def Obligations.EveryStepAnswers : Prop :=
  ∀ s : State, Inv s → (∃ t, step s = .next t) ∨
    ∃ off rest, off.isWord = false ∧ ((∃ v, s.agenda = .write off v :: rest) ∨ s.agenda = .read off :: rest) ∧
      step s = .refused (.notWordOffset off)

/-- Vector H12: in the invariant `STATUS` reads one of eight values. -/
def Obligations.StatusValues : Prop :=
  ∀ s : State, Inv s →
    hostValue 0x04#7 s ∈ [0x00#32, 0x01#32, 0x02#32, 0x14#32, 0x15#32, 0x16#32, 0x25#32, 0x26#32]

/-- R14, R15, R16, R18: apart from `Reset`, `DATA` changes only in the commit of a scalar operation and the string
registers only in the commit of a string operation, each leaving the other kind's registers. -/
def Obligations.ResultsWrittenAtCommitOnly : Prop :=
  ∀ s t : State, step s = .next t → ¬ ResetNext s →
    (t.data ≠ s.data → ControllerNext s ∧ s.st = .stop ∧ s.opk = 0#1 ∧ t.done = true ∧ t.busy = false ∧
      t.strlen = s.strlen ∧ t.strbuf = s.strbuf) ∧
    (t.strlen ≠ s.strlen ∨ t.strbuf ≠ s.strbuf → ControllerNext s ∧ s.st = .stop ∧ s.opk ≠ 0#1 ∧ t.done = true ∧
      t.busy = false ∧ t.data = s.data)

/-- R11, R12: `BUSY` rises only by the acceptance of a command and falls only by a commit or `Reset`; `DONE` rises only by
a commit and falls only by an acceptance or `Reset`. -/
def Obligations.BusyAndDoneChange : Prop :=
  ∀ s t : State, step s = .next t →
    (s.busy = false → t.busy = true → t.done = false ∧ ∃ v rest, s.agenda = .write 0x00#7 v :: rest ∧ Legal v) ∧
    (s.busy = true → t.busy = false → ResetNext s ∨ (ControllerNext s ∧ s.st = .stop ∧ t.done = true)) ∧
    (s.done = false → t.done = true → ControllerNext s ∧ s.st = .stop ∧ t.busy = false) ∧
    (s.done = true → t.done = false →
      ResetNext s ∨ (s.busy = false ∧ t.busy = true ∧ ∃ v rest, s.agenda = .write 0x00#7 v :: rest ∧ Legal v))

/-- R20, R58: while an operation runs nothing but `Reset` changes the latched command. -/
def Obligations.LatchedCommandConstant : Prop :=
  ∀ s t : State, s.busy = true → ¬ ResetNext s → step s = .next t →
    t.opk = s.opk ∧ t.wl = s.wl ∧ t.regl = s.regl

/-- R53, R88: a step puts at most one symbol at the end of the trace; a transmitted byte is the write address, the latched
register address or the read address. -/
def Obligations.TraceGrowsBySymbol : Prop :=
  ∀ s t : State, step s = .next t → t.trace = s.trace ∨ ∃ y, t.trace = s.trace ++ [y] ∧
    ∀ b a, y = .sent b a → b = addrWrite Config.periphAddr ∨ b = s.regl ∨ b = addrRead Config.periphAddr

/-- R156, R158, R51: a turn of the host other than `Reset`, while an operation runs, leaves the operation and every result
register alone. -/
def Obligations.HostTurnsLeaveOperation : Prop :=
  ∀ s t : State, s.busy = true → ¬ ControllerNext s → ¬ ResetNext s → step s = .next t →
    t = { s with fault := t.fault, cause := t.cause, finfo := t.finfo, reads := t.reads, agenda := t.agenda }

/-- R159: the host cannot tell a scalar operation whose transaction failed from one that delivered zeros, nor a string
operation that failed from one that delivered an empty string, at any offset. -/
def Obligations.BusFailureInvisible : Prop :=
  ∀ (s : State) (zeros : Buffer) (t u : State) (off : Offset), s.st = .stop → (∀ j < 33, byteAt zeros j = 0#8) →
    microStep { s with failf := true } = .next t →
    (s.opk = 0#1 → microStep { s with failf := false, rbuf := zeros } = .next u → hostValue off t = hostValue off u) ∧
    (s.opk = 1#1 → microStep { s with failf := false, ph := .b, llat := 0#8 } = .next u →
      hostValue off t = hostValue off u)

/-- R160, the call readString's unpacking: the words read at 0x20 to 0x40 give back the characters and the terminator. -/
def Obligations.StringUnpacks : Prop :=
  ∀ (b : Buffer) (len : Nat), len ≤ 32 →
    unpackString len ((List.range 9).map (stringWord b)) = (List.range (len + 1)).map (byteAt b)

/-- R160, the call readScalar for RD8, RD16, RD32: the host program ends with `BUSY` = 0 and its last read, at 0x0C, is the
value of the operation. The order of polls and micro-steps inside WAIT is this model's choice (log 5). -/
def Obligations.ReadScalarCallReturns : Prop :=
  ∀ (s : State) (reg : Byte), s.busy = false →
    (s.agenda = readScalarCall reg 1#32 →
      ∃ k t, Runs k s t ∧ ProgramOver t ∧ t.reads.getLast? = some (0x0C#7, (bigRd8 reg s.periph).value)) ∧
    (s.agenda = readScalarCall reg 2#32 →
      ∃ k t, Runs k s t ∧ ProgramOver t ∧ t.reads.getLast? = some (0x0C#7, (bigRd16 reg s.periph).value)) ∧
    (s.agenda = readScalarCall reg 4#32 →
      ∃ k t, Runs k s t ∧ ProgramOver t ∧ t.reads.getLast? = some (0x0C#7, (bigRd32 reg s.periph).value))

/-- R160, the call readString: the host program ends with `BUSY` = 0, its last ten reads are the length at 0x10 and the nine
words at 0x20 to 0x40, and unpacked they are the characters of the operation and a terminator. The order of polls and
micro-steps inside WAIT is this model's choice (log 5). -/
def Obligations.ReadStringCallReturns : Prop :=
  ∀ (s : State) (reg : Byte), s.busy = false → s.agenda = readStringCall reg →
    ∃ (k : Nat) (t : State) (before : List (Offset × Word)) (words : List Word),
      Runs k s t ∧ ProgramOver t ∧ words.length = 9 ∧
      t.reads = before ++ (0x10#7, BitVec.ofNat 32 (bigRdstr reg s.periph).chars.length) ::
        ((List.range 9).map fun k => BitVec.ofNat 7 (0x20 + 4 * k)).zip words ∧
      unpackString (bigRdstr reg s.periph).chars.length words = (bigRdstr reg s.periph).chars ++ [0#8]
end

