-- ==== Sys2Proof/Laws/State.lean ====
section
/-! SUPPORT. One lemma per field per update of State, so that no proof unfolds a record update. -/

namespace Sys2Proof.Machine

variable (s : State)

@[simp] theorem emit_busy (y : Symbol) : (s.emit y).busy = s.busy := rfl
@[simp] theorem emit_done (y : Symbol) : (s.emit y).done = s.done := rfl
@[simp] theorem emit_fault (y : Symbol) : (s.emit y).fault = s.fault := rfl
@[simp] theorem emit_cause (y : Symbol) : (s.emit y).cause = s.cause := rfl
@[simp] theorem emit_finfo (y : Symbol) : (s.emit y).finfo = s.finfo := rfl
@[simp] theorem emit_data (y : Symbol) : (s.emit y).data = s.data := rfl
@[simp] theorem emit_strlen (y : Symbol) : (s.emit y).strlen = s.strlen := rfl
@[simp] theorem emit_strbuf (y : Symbol) : (s.emit y).strbuf = s.strbuf := rfl
@[simp] theorem emit_opk (y : Symbol) : (s.emit y).opk = s.opk := rfl
@[simp] theorem emit_wl (y : Symbol) : (s.emit y).wl = s.wl := rfl
@[simp] theorem emit_regl (y : Symbol) : (s.emit y).regl = s.regl := rfl
@[simp] theorem emit_n (y : Symbol) : (s.emit y).n = s.n := rfl
@[simp] theorem emit_cnt (y : Symbol) : (s.emit y).cnt = s.cnt := rfl
@[simp] theorem emit_llat (y : Symbol) : (s.emit y).llat = s.llat := rfl
@[simp] theorem emit_ph (y : Symbol) : (s.emit y).ph = s.ph := rfl
@[simp] theorem emit_st (y : Symbol) : (s.emit y).st = s.st := rfl
@[simp] theorem emit_rbuf (y : Symbol) : (s.emit y).rbuf = s.rbuf := rfl
@[simp] theorem emit_failf (y : Symbol) : (s.emit y).failf = s.failf := rfl
@[simp] theorem emit_bus (y : Symbol) : (s.emit y).bus = s.bus := rfl
@[simp] theorem emit_trace (y : Symbol) : (s.emit y).trace = s.trace ++ [y] := rfl
@[simp] theorem emit_reads (y : Symbol) : (s.emit y).reads = s.reads := rfl
@[simp] theorem emit_agenda (y : Symbol) : (s.emit y).agenda = s.agenda := rfl
@[simp] theorem emit_periph (y : Symbol) : (s.emit y).periph = s.periph := rfl

@[simp] theorem goto_busy (q : SeqState) : (s.goto q).busy = s.busy := rfl
@[simp] theorem goto_done (q : SeqState) : (s.goto q).done = s.done := rfl
@[simp] theorem goto_fault (q : SeqState) : (s.goto q).fault = s.fault := rfl
@[simp] theorem goto_cause (q : SeqState) : (s.goto q).cause = s.cause := rfl
@[simp] theorem goto_finfo (q : SeqState) : (s.goto q).finfo = s.finfo := rfl
@[simp] theorem goto_data (q : SeqState) : (s.goto q).data = s.data := rfl
@[simp] theorem goto_strlen (q : SeqState) : (s.goto q).strlen = s.strlen := rfl
@[simp] theorem goto_strbuf (q : SeqState) : (s.goto q).strbuf = s.strbuf := rfl
@[simp] theorem goto_opk (q : SeqState) : (s.goto q).opk = s.opk := rfl
@[simp] theorem goto_wl (q : SeqState) : (s.goto q).wl = s.wl := rfl
@[simp] theorem goto_regl (q : SeqState) : (s.goto q).regl = s.regl := rfl
@[simp] theorem goto_n (q : SeqState) : (s.goto q).n = s.n := rfl
@[simp] theorem goto_cnt (q : SeqState) : (s.goto q).cnt = s.cnt := rfl
@[simp] theorem goto_llat (q : SeqState) : (s.goto q).llat = s.llat := rfl
@[simp] theorem goto_ph (q : SeqState) : (s.goto q).ph = s.ph := rfl
@[simp] theorem goto_st (q : SeqState) : (s.goto q).st = q := rfl
@[simp] theorem goto_rbuf (q : SeqState) : (s.goto q).rbuf = s.rbuf := rfl
@[simp] theorem goto_failf (q : SeqState) : (s.goto q).failf = s.failf := rfl
@[simp] theorem goto_bus (q : SeqState) : (s.goto q).bus = s.bus := rfl
@[simp] theorem goto_trace (q : SeqState) : (s.goto q).trace = s.trace := rfl
@[simp] theorem goto_reads (q : SeqState) : (s.goto q).reads = s.reads := rfl
@[simp] theorem goto_agenda (q : SeqState) : (s.goto q).agenda = s.agenda := rfl
@[simp] theorem goto_periph (q : SeqState) : (s.goto q).periph = s.periph := rfl

@[simp] theorem setBus_busy (b : BusState) : (s.setBus b).busy = s.busy := rfl
@[simp] theorem setBus_done (b : BusState) : (s.setBus b).done = s.done := rfl
@[simp] theorem setBus_fault (b : BusState) : (s.setBus b).fault = s.fault := rfl
@[simp] theorem setBus_cause (b : BusState) : (s.setBus b).cause = s.cause := rfl
@[simp] theorem setBus_finfo (b : BusState) : (s.setBus b).finfo = s.finfo := rfl
@[simp] theorem setBus_data (b : BusState) : (s.setBus b).data = s.data := rfl
@[simp] theorem setBus_strlen (b : BusState) : (s.setBus b).strlen = s.strlen := rfl
@[simp] theorem setBus_strbuf (b : BusState) : (s.setBus b).strbuf = s.strbuf := rfl
@[simp] theorem setBus_opk (b : BusState) : (s.setBus b).opk = s.opk := rfl
@[simp] theorem setBus_wl (b : BusState) : (s.setBus b).wl = s.wl := rfl
@[simp] theorem setBus_regl (b : BusState) : (s.setBus b).regl = s.regl := rfl
@[simp] theorem setBus_n (b : BusState) : (s.setBus b).n = s.n := rfl
@[simp] theorem setBus_cnt (b : BusState) : (s.setBus b).cnt = s.cnt := rfl
@[simp] theorem setBus_llat (b : BusState) : (s.setBus b).llat = s.llat := rfl
@[simp] theorem setBus_ph (b : BusState) : (s.setBus b).ph = s.ph := rfl
@[simp] theorem setBus_st (b : BusState) : (s.setBus b).st = s.st := rfl
@[simp] theorem setBus_rbuf (b : BusState) : (s.setBus b).rbuf = s.rbuf := rfl
@[simp] theorem setBus_failf (b : BusState) : (s.setBus b).failf = s.failf := rfl
@[simp] theorem setBus_bus (b : BusState) : (s.setBus b).bus = b := rfl
@[simp] theorem setBus_trace (b : BusState) : (s.setBus b).trace = s.trace := rfl
@[simp] theorem setBus_reads (b : BusState) : (s.setBus b).reads = s.reads := rfl
@[simp] theorem setBus_agenda (b : BusState) : (s.setBus b).agenda = s.agenda := rfl
@[simp] theorem setBus_periph (b : BusState) : (s.setBus b).periph = s.periph := rfl

@[simp] theorem failTransaction_busy : s.failTransaction.busy = s.busy := rfl
@[simp] theorem failTransaction_done : s.failTransaction.done = s.done := rfl
@[simp] theorem failTransaction_fault : s.failTransaction.fault = s.fault := rfl
@[simp] theorem failTransaction_cause : s.failTransaction.cause = s.cause := rfl
@[simp] theorem failTransaction_finfo : s.failTransaction.finfo = s.finfo := rfl
@[simp] theorem failTransaction_data : s.failTransaction.data = s.data := rfl
@[simp] theorem failTransaction_strlen : s.failTransaction.strlen = s.strlen := rfl
@[simp] theorem failTransaction_strbuf : s.failTransaction.strbuf = s.strbuf := rfl
@[simp] theorem failTransaction_opk : s.failTransaction.opk = s.opk := rfl
@[simp] theorem failTransaction_wl : s.failTransaction.wl = s.wl := rfl
@[simp] theorem failTransaction_regl : s.failTransaction.regl = s.regl := rfl
@[simp] theorem failTransaction_n : s.failTransaction.n = s.n := rfl
@[simp] theorem failTransaction_cnt : s.failTransaction.cnt = s.cnt := rfl
@[simp] theorem failTransaction_llat : s.failTransaction.llat = s.llat := rfl
@[simp] theorem failTransaction_ph : s.failTransaction.ph = s.ph := rfl
@[simp] theorem failTransaction_st : s.failTransaction.st = .stop := rfl
@[simp] theorem failTransaction_rbuf : s.failTransaction.rbuf = s.rbuf := rfl
@[simp] theorem failTransaction_failf : s.failTransaction.failf = true := rfl
@[simp] theorem failTransaction_bus : s.failTransaction.bus = s.bus := rfl
@[simp] theorem failTransaction_trace : s.failTransaction.trace = s.trace := rfl
@[simp] theorem failTransaction_reads : s.failTransaction.reads = s.reads := rfl
@[simp] theorem failTransaction_agenda : s.failTransaction.agenda = s.agenda := rfl
@[simp] theorem failTransaction_periph : s.failTransaction.periph = s.periph := rfl

@[simp] theorem latch_busy (o : BitVec 1) (w : BitVec 3) (r : Byte) : (s.latch o w r).busy = s.busy := rfl
@[simp] theorem latch_done (o : BitVec 1) (w : BitVec 3) (r : Byte) : (s.latch o w r).done = s.done := rfl
@[simp] theorem latch_fault (o : BitVec 1) (w : BitVec 3) (r : Byte) : (s.latch o w r).fault = s.fault := rfl
@[simp] theorem latch_cause (o : BitVec 1) (w : BitVec 3) (r : Byte) : (s.latch o w r).cause = s.cause := rfl
@[simp] theorem latch_finfo (o : BitVec 1) (w : BitVec 3) (r : Byte) : (s.latch o w r).finfo = s.finfo := rfl
@[simp] theorem latch_data (o : BitVec 1) (w : BitVec 3) (r : Byte) : (s.latch o w r).data = s.data := rfl
@[simp] theorem latch_strlen (o : BitVec 1) (w : BitVec 3) (r : Byte) : (s.latch o w r).strlen = s.strlen := rfl
@[simp] theorem latch_strbuf (o : BitVec 1) (w : BitVec 3) (r : Byte) : (s.latch o w r).strbuf = s.strbuf := rfl
@[simp] theorem latch_opk (o : BitVec 1) (w : BitVec 3) (r : Byte) : (s.latch o w r).opk = o := rfl
@[simp] theorem latch_wl (o : BitVec 1) (w : BitVec 3) (r : Byte) : (s.latch o w r).wl = w := rfl
@[simp] theorem latch_regl (o : BitVec 1) (w : BitVec 3) (r : Byte) : (s.latch o w r).regl = r := rfl
@[simp] theorem latch_n (o : BitVec 1) (w : BitVec 3) (r : Byte) : (s.latch o w r).n = firstCount o w := rfl
@[simp] theorem latch_cnt (o : BitVec 1) (w : BitVec 3) (r : Byte) : (s.latch o w r).cnt = s.cnt := rfl
@[simp] theorem latch_llat (o : BitVec 1) (w : BitVec 3) (r : Byte) : (s.latch o w r).llat = s.llat := rfl
@[simp] theorem latch_ph (o : BitVec 1) (w : BitVec 3) (r : Byte) : (s.latch o w r).ph = .a := rfl
@[simp] theorem latch_st (o : BitVec 1) (w : BitVec 3) (r : Byte) : (s.latch o w r).st = .start := rfl
@[simp] theorem latch_rbuf (o : BitVec 1) (w : BitVec 3) (r : Byte) : (s.latch o w r).rbuf = s.rbuf := rfl
@[simp] theorem latch_failf (o : BitVec 1) (w : BitVec 3) (r : Byte) : (s.latch o w r).failf = false := rfl
@[simp] theorem latch_bus (o : BitVec 1) (w : BitVec 3) (r : Byte) : (s.latch o w r).bus = s.bus := rfl
@[simp] theorem latch_trace (o : BitVec 1) (w : BitVec 3) (r : Byte) : (s.latch o w r).trace = s.trace := rfl
@[simp] theorem latch_reads (o : BitVec 1) (w : BitVec 3) (r : Byte) : (s.latch o w r).reads = s.reads := rfl
@[simp] theorem latch_agenda (o : BitVec 1) (w : BitVec 3) (r : Byte) : (s.latch o w r).agenda = s.agenda := rfl
@[simp] theorem latch_periph (o : BitVec 1) (w : BitVec 3) (r : Byte) : (s.latch o w r).periph = s.periph := rfl

@[simp] theorem beginOperation_busy : s.beginOperation.busy = true := rfl
@[simp] theorem beginOperation_done : s.beginOperation.done = false := rfl
@[simp] theorem beginOperation_fault : s.beginOperation.fault = s.fault := rfl
@[simp] theorem beginOperation_cause : s.beginOperation.cause = s.cause := rfl
@[simp] theorem beginOperation_finfo : s.beginOperation.finfo = s.finfo := rfl
@[simp] theorem beginOperation_data : s.beginOperation.data = s.data := rfl
@[simp] theorem beginOperation_strlen : s.beginOperation.strlen = s.strlen := rfl
@[simp] theorem beginOperation_strbuf : s.beginOperation.strbuf = s.strbuf := rfl
@[simp] theorem beginOperation_opk : s.beginOperation.opk = s.opk := rfl
@[simp] theorem beginOperation_wl : s.beginOperation.wl = s.wl := rfl
@[simp] theorem beginOperation_regl : s.beginOperation.regl = s.regl := rfl
@[simp] theorem beginOperation_n : s.beginOperation.n = s.n := rfl
@[simp] theorem beginOperation_cnt : s.beginOperation.cnt = s.cnt := rfl
@[simp] theorem beginOperation_llat : s.beginOperation.llat = s.llat := rfl
@[simp] theorem beginOperation_ph : s.beginOperation.ph = s.ph := rfl
@[simp] theorem beginOperation_st : s.beginOperation.st = s.st := rfl
@[simp] theorem beginOperation_rbuf : s.beginOperation.rbuf = s.rbuf := rfl
@[simp] theorem beginOperation_failf : s.beginOperation.failf = s.failf := rfl
@[simp] theorem beginOperation_bus : s.beginOperation.bus = s.bus := rfl
@[simp] theorem beginOperation_trace : s.beginOperation.trace = s.trace := rfl
@[simp] theorem beginOperation_reads : s.beginOperation.reads = s.reads := rfl
@[simp] theorem beginOperation_agenda : s.beginOperation.agenda = s.agenda := rfl
@[simp] theorem beginOperation_periph : s.beginOperation.periph = s.periph := rfl

@[simp] theorem endOperation_busy : s.endOperation.busy = false := rfl
@[simp] theorem endOperation_done : s.endOperation.done = true := rfl
@[simp] theorem endOperation_fault : s.endOperation.fault = s.fault := rfl
@[simp] theorem endOperation_cause : s.endOperation.cause = s.cause := rfl
@[simp] theorem endOperation_finfo : s.endOperation.finfo = s.finfo := rfl
@[simp] theorem endOperation_data : s.endOperation.data = s.data := rfl
@[simp] theorem endOperation_strlen : s.endOperation.strlen = s.strlen := rfl
@[simp] theorem endOperation_strbuf : s.endOperation.strbuf = s.strbuf := rfl
@[simp] theorem endOperation_opk : s.endOperation.opk = s.opk := rfl
@[simp] theorem endOperation_wl : s.endOperation.wl = s.wl := rfl
@[simp] theorem endOperation_regl : s.endOperation.regl = s.regl := rfl
@[simp] theorem endOperation_n : s.endOperation.n = s.n := rfl
@[simp] theorem endOperation_cnt : s.endOperation.cnt = s.cnt := rfl
@[simp] theorem endOperation_llat : s.endOperation.llat = s.llat := rfl
@[simp] theorem endOperation_ph : s.endOperation.ph = s.ph := rfl
@[simp] theorem endOperation_st : s.endOperation.st = s.st := rfl
@[simp] theorem endOperation_rbuf : s.endOperation.rbuf = s.rbuf := rfl
@[simp] theorem endOperation_failf : s.endOperation.failf = s.failf := rfl
@[simp] theorem endOperation_bus : s.endOperation.bus = s.bus := rfl
@[simp] theorem endOperation_trace : s.endOperation.trace = s.trace := rfl
@[simp] theorem endOperation_reads : s.endOperation.reads = s.reads := rfl
@[simp] theorem endOperation_agenda : s.endOperation.agenda = s.agenda := rfl
@[simp] theorem endOperation_periph : s.endOperation.periph = s.periph := rfl

@[simp] theorem logRead_busy (off : Offset) : (s.logRead off).busy = s.busy := rfl
@[simp] theorem logRead_done (off : Offset) : (s.logRead off).done = s.done := rfl
@[simp] theorem logRead_fault (off : Offset) : (s.logRead off).fault = s.fault := rfl
@[simp] theorem logRead_cause (off : Offset) : (s.logRead off).cause = s.cause := rfl
@[simp] theorem logRead_finfo (off : Offset) : (s.logRead off).finfo = s.finfo := rfl
@[simp] theorem logRead_data (off : Offset) : (s.logRead off).data = s.data := rfl
@[simp] theorem logRead_strlen (off : Offset) : (s.logRead off).strlen = s.strlen := rfl
@[simp] theorem logRead_strbuf (off : Offset) : (s.logRead off).strbuf = s.strbuf := rfl
@[simp] theorem logRead_opk (off : Offset) : (s.logRead off).opk = s.opk := rfl
@[simp] theorem logRead_wl (off : Offset) : (s.logRead off).wl = s.wl := rfl
@[simp] theorem logRead_regl (off : Offset) : (s.logRead off).regl = s.regl := rfl
@[simp] theorem logRead_n (off : Offset) : (s.logRead off).n = s.n := rfl
@[simp] theorem logRead_cnt (off : Offset) : (s.logRead off).cnt = s.cnt := rfl
@[simp] theorem logRead_llat (off : Offset) : (s.logRead off).llat = s.llat := rfl
@[simp] theorem logRead_ph (off : Offset) : (s.logRead off).ph = s.ph := rfl
@[simp] theorem logRead_st (off : Offset) : (s.logRead off).st = s.st := rfl
@[simp] theorem logRead_rbuf (off : Offset) : (s.logRead off).rbuf = s.rbuf := rfl
@[simp] theorem logRead_failf (off : Offset) : (s.logRead off).failf = s.failf := rfl
@[simp] theorem logRead_bus (off : Offset) : (s.logRead off).bus = s.bus := rfl
@[simp] theorem logRead_trace (off : Offset) : (s.logRead off).trace = s.trace := rfl
@[simp] theorem logRead_reads (off : Offset) : (s.logRead off).reads = s.reads ++ [(off, hostValue off s)] := rfl
@[simp] theorem logRead_agenda (off : Offset) : (s.logRead off).agenda = s.agenda := rfl
@[simp] theorem logRead_periph (off : Offset) : (s.logRead off).periph = s.periph := rfl

@[simp] theorem writeScalar_busy : s.writeScalar.busy = s.busy := rfl
@[simp] theorem writeScalar_done : s.writeScalar.done = s.done := rfl
@[simp] theorem writeScalar_fault : s.writeScalar.fault = s.fault := rfl
@[simp] theorem writeScalar_cause : s.writeScalar.cause = s.cause := rfl
@[simp] theorem writeScalar_finfo : s.writeScalar.finfo = s.finfo := rfl
@[simp] theorem writeScalar_data : s.writeScalar.data = if s.failf then 0#32 else assembleScalar s.wl s.rbuf := rfl
@[simp] theorem writeScalar_strlen : s.writeScalar.strlen = s.strlen := rfl
@[simp] theorem writeScalar_strbuf : s.writeScalar.strbuf = s.strbuf := rfl
@[simp] theorem writeScalar_opk : s.writeScalar.opk = s.opk := rfl
@[simp] theorem writeScalar_wl : s.writeScalar.wl = s.wl := rfl
@[simp] theorem writeScalar_regl : s.writeScalar.regl = s.regl := rfl
@[simp] theorem writeScalar_n : s.writeScalar.n = s.n := rfl
@[simp] theorem writeScalar_cnt : s.writeScalar.cnt = s.cnt := rfl
@[simp] theorem writeScalar_llat : s.writeScalar.llat = s.llat := rfl
@[simp] theorem writeScalar_ph : s.writeScalar.ph = s.ph := rfl
@[simp] theorem writeScalar_st : s.writeScalar.st = s.st := rfl
@[simp] theorem writeScalar_rbuf : s.writeScalar.rbuf = s.rbuf := rfl
@[simp] theorem writeScalar_failf : s.writeScalar.failf = s.failf := rfl
@[simp] theorem writeScalar_bus : s.writeScalar.bus = s.bus := rfl
@[simp] theorem writeScalar_trace : s.writeScalar.trace = s.trace := rfl
@[simp] theorem writeScalar_reads : s.writeScalar.reads = s.reads := rfl
@[simp] theorem writeScalar_agenda : s.writeScalar.agenda = s.agenda := rfl
@[simp] theorem writeScalar_periph : s.writeScalar.periph = s.periph := rfl

@[simp] theorem startPhaseB_busy : s.startPhaseB.busy = s.busy := rfl
@[simp] theorem startPhaseB_done : s.startPhaseB.done = s.done := rfl
@[simp] theorem startPhaseB_fault : s.startPhaseB.fault = s.fault := rfl
@[simp] theorem startPhaseB_cause : s.startPhaseB.cause = s.cause := rfl
@[simp] theorem startPhaseB_finfo : s.startPhaseB.finfo = s.finfo := rfl
@[simp] theorem startPhaseB_data : s.startPhaseB.data = s.data := rfl
@[simp] theorem startPhaseB_strlen : s.startPhaseB.strlen = s.strlen := rfl
@[simp] theorem startPhaseB_strbuf : s.startPhaseB.strbuf = s.strbuf := rfl
@[simp] theorem startPhaseB_opk : s.startPhaseB.opk = s.opk := rfl
@[simp] theorem startPhaseB_wl : s.startPhaseB.wl = s.wl := rfl
@[simp] theorem startPhaseB_regl : s.startPhaseB.regl = s.regl := rfl
@[simp] theorem startPhaseB_n : s.startPhaseB.n = clampLength s.rbuf[0] + 1#6 := rfl
@[simp] theorem startPhaseB_cnt : s.startPhaseB.cnt = s.cnt := rfl
@[simp] theorem startPhaseB_llat : s.startPhaseB.llat = s.rbuf[0] := rfl
@[simp] theorem startPhaseB_ph : s.startPhaseB.ph = .b := rfl
@[simp] theorem startPhaseB_st : s.startPhaseB.st = .start := rfl
@[simp] theorem startPhaseB_rbuf : s.startPhaseB.rbuf = s.rbuf := rfl
@[simp] theorem startPhaseB_failf : s.startPhaseB.failf = s.failf := rfl
@[simp] theorem startPhaseB_bus : s.startPhaseB.bus = s.bus := rfl
@[simp] theorem startPhaseB_trace : s.startPhaseB.trace = s.trace := rfl
@[simp] theorem startPhaseB_reads : s.startPhaseB.reads = s.reads := rfl
@[simp] theorem startPhaseB_agenda : s.startPhaseB.agenda = s.agenda := rfl
@[simp] theorem startPhaseB_periph : s.startPhaseB.periph = s.periph := rfl

@[simp] theorem openReceive_busy : s.openReceive.busy = s.busy := rfl
@[simp] theorem openReceive_done : s.openReceive.done = s.done := rfl
@[simp] theorem openReceive_fault : s.openReceive.fault = s.fault := rfl
@[simp] theorem openReceive_cause : s.openReceive.cause = s.cause := rfl
@[simp] theorem openReceive_finfo : s.openReceive.finfo = s.finfo := rfl
@[simp] theorem openReceive_data : s.openReceive.data = s.data := rfl
@[simp] theorem openReceive_strlen : s.openReceive.strlen = s.strlen := rfl
@[simp] theorem openReceive_strbuf : s.openReceive.strbuf = s.strbuf := rfl
@[simp] theorem openReceive_opk : s.openReceive.opk = s.opk := rfl
@[simp] theorem openReceive_wl : s.openReceive.wl = s.wl := rfl
@[simp] theorem openReceive_regl : s.openReceive.regl = s.regl := rfl
@[simp] theorem openReceive_n : s.openReceive.n = s.n := rfl
@[simp] theorem openReceive_cnt : s.openReceive.cnt = 0#6 := rfl
@[simp] theorem openReceive_llat : s.openReceive.llat = s.llat := rfl
@[simp] theorem openReceive_ph : s.openReceive.ph = s.ph := rfl
@[simp] theorem openReceive_st : s.openReceive.st = .datab := rfl
@[simp] theorem openReceive_rbuf : s.openReceive.rbuf = s.rbuf := rfl
@[simp] theorem openReceive_failf : s.openReceive.failf = s.failf := rfl
@[simp] theorem openReceive_bus : s.openReceive.bus = s.bus := rfl
@[simp] theorem openReceive_trace : s.openReceive.trace = s.trace := rfl
@[simp] theorem openReceive_reads : s.openReceive.reads = s.reads := rfl
@[simp] theorem openReceive_agenda : s.openReceive.agenda = s.agenda := rfl
@[simp] theorem openReceive_periph : s.openReceive.periph = s.periph := rfl

@[simp] theorem storeByte_busy (d : Byte) : (s.storeByte d).busy = s.busy := rfl
@[simp] theorem storeByte_done (d : Byte) : (s.storeByte d).done = s.done := rfl
@[simp] theorem storeByte_fault (d : Byte) : (s.storeByte d).fault = s.fault := rfl
@[simp] theorem storeByte_cause (d : Byte) : (s.storeByte d).cause = s.cause := rfl
@[simp] theorem storeByte_finfo (d : Byte) : (s.storeByte d).finfo = s.finfo := rfl
@[simp] theorem storeByte_data (d : Byte) : (s.storeByte d).data = s.data := rfl
@[simp] theorem storeByte_strlen (d : Byte) : (s.storeByte d).strlen = s.strlen := rfl
@[simp] theorem storeByte_strbuf (d : Byte) : (s.storeByte d).strbuf = s.strbuf := rfl
@[simp] theorem storeByte_opk (d : Byte) : (s.storeByte d).opk = s.opk := rfl
@[simp] theorem storeByte_wl (d : Byte) : (s.storeByte d).wl = s.wl := rfl
@[simp] theorem storeByte_regl (d : Byte) : (s.storeByte d).regl = s.regl := rfl
@[simp] theorem storeByte_n (d : Byte) : (s.storeByte d).n = s.n := rfl
@[simp] theorem storeByte_cnt (d : Byte) : (s.storeByte d).cnt = s.cnt + 1#6 := rfl
@[simp] theorem storeByte_llat (d : Byte) : (s.storeByte d).llat = s.llat := rfl
@[simp] theorem storeByte_ph (d : Byte) : (s.storeByte d).ph = s.ph := rfl
@[simp] theorem storeByte_st (d : Byte) : (s.storeByte d).st = if s.cnt + 1#6 = s.n then .stop else .datab := rfl
@[simp] theorem storeByte_rbuf (d : Byte) : (s.storeByte d).rbuf = s.rbuf.setIfInBounds s.cnt.toNat d := rfl
@[simp] theorem storeByte_failf (d : Byte) : (s.storeByte d).failf = s.failf := rfl
@[simp] theorem storeByte_bus (d : Byte) : (s.storeByte d).bus = s.bus := rfl
@[simp] theorem storeByte_trace (d : Byte) : (s.storeByte d).trace = s.trace := rfl
@[simp] theorem storeByte_reads (d : Byte) : (s.storeByte d).reads = s.reads := rfl
@[simp] theorem storeByte_agenda (d : Byte) : (s.storeByte d).agenda = s.agenda := rfl
@[simp] theorem storeByte_periph (d : Byte) : (s.storeByte d).periph = s.periph := rfl

@[simp] theorem release_busy : s.release.busy = s.busy := rfl
@[simp] theorem release_done : s.release.done = s.done := rfl
@[simp] theorem release_fault : s.release.fault = s.fault := rfl
@[simp] theorem release_cause : s.release.cause = s.cause := rfl
@[simp] theorem release_finfo : s.release.finfo = s.finfo := rfl
@[simp] theorem release_data : s.release.data = s.data := rfl
@[simp] theorem release_strlen : s.release.strlen = s.strlen := rfl
@[simp] theorem release_strbuf : s.release.strbuf = s.strbuf := rfl
@[simp] theorem release_opk : s.release.opk = s.opk := rfl
@[simp] theorem release_wl : s.release.wl = s.wl := rfl
@[simp] theorem release_regl : s.release.regl = s.regl := rfl
@[simp] theorem release_n : s.release.n = s.n := rfl
@[simp] theorem release_cnt : s.release.cnt = s.cnt := rfl
@[simp] theorem release_llat : s.release.llat = s.llat := rfl
@[simp] theorem release_ph : s.release.ph = s.ph := rfl
@[simp] theorem release_st : s.release.st = s.st := rfl
@[simp] theorem release_rbuf : s.release.rbuf = s.rbuf := rfl
@[simp] theorem release_failf : s.release.failf = s.failf := rfl
@[simp] theorem release_bus : s.release.bus = .free := rfl
@[simp] theorem release_trace : s.release.trace = s.trace ++ [.stop] := rfl
@[simp] theorem release_reads : s.release.reads = s.reads := rfl
@[simp] theorem release_agenda : s.release.agenda = s.agenda := rfl
@[simp] theorem release_periph : s.release.periph = s.periph := rfl

@[simp] theorem resetAction_busy : s.resetAction.busy = State.reset.busy := rfl
@[simp] theorem resetAction_done : s.resetAction.done = State.reset.done := rfl
@[simp] theorem resetAction_fault : s.resetAction.fault = State.reset.fault := rfl
@[simp] theorem resetAction_cause : s.resetAction.cause = State.reset.cause := rfl
@[simp] theorem resetAction_finfo : s.resetAction.finfo = State.reset.finfo := rfl
@[simp] theorem resetAction_data : s.resetAction.data = State.reset.data := rfl
@[simp] theorem resetAction_strlen : s.resetAction.strlen = State.reset.strlen := rfl
@[simp] theorem resetAction_strbuf : s.resetAction.strbuf = State.reset.strbuf := rfl
@[simp] theorem resetAction_opk : s.resetAction.opk = State.reset.opk := rfl
@[simp] theorem resetAction_wl : s.resetAction.wl = State.reset.wl := rfl
@[simp] theorem resetAction_regl : s.resetAction.regl = State.reset.regl := rfl
@[simp] theorem resetAction_n : s.resetAction.n = State.reset.n := rfl
@[simp] theorem resetAction_cnt : s.resetAction.cnt = State.reset.cnt := rfl
@[simp] theorem resetAction_llat : s.resetAction.llat = State.reset.llat := rfl
@[simp] theorem resetAction_ph : s.resetAction.ph = State.reset.ph := rfl
@[simp] theorem resetAction_st : s.resetAction.st = State.reset.st := rfl
@[simp] theorem resetAction_rbuf : s.resetAction.rbuf = State.reset.rbuf := rfl
@[simp] theorem resetAction_failf : s.resetAction.failf = State.reset.failf := rfl
@[simp] theorem resetAction_bus : s.resetAction.bus = State.reset.bus := rfl
@[simp] theorem resetAction_trace : s.resetAction.trace = traceAfterReset s := rfl
@[simp] theorem resetAction_reads : s.resetAction.reads = s.reads := rfl
@[simp] theorem resetAction_agenda : s.resetAction.agenda = s.agenda := rfl
@[simp] theorem resetAction_periph : s.resetAction.periph = s.periph := rfl

@[simp] theorem raise_busy (c : CommandFault) (v : Word) : (s.raise c v).busy = s.busy := by
  by_cases h : s.fault <;> simp [State.raise, h]
@[simp] theorem raise_done (c : CommandFault) (v : Word) : (s.raise c v).done = s.done := by
  by_cases h : s.fault <;> simp [State.raise, h]
@[simp] theorem raise_fault (c : CommandFault) (v : Word) : (s.raise c v).fault = true := by
  by_cases h : s.fault <;> simp [State.raise, h]
@[simp] theorem raise_cause (c : CommandFault) (v : Word) : (s.raise c v).cause = if s.fault then s.cause else causeCode c := by
  by_cases h : s.fault <;> simp [State.raise, h]
@[simp] theorem raise_finfo (c : CommandFault) (v : Word) : (s.raise c v).finfo = if s.fault then s.finfo else v := by
  by_cases h : s.fault <;> simp [State.raise, h]
@[simp] theorem raise_data (c : CommandFault) (v : Word) : (s.raise c v).data = s.data := by
  by_cases h : s.fault <;> simp [State.raise, h]
@[simp] theorem raise_strlen (c : CommandFault) (v : Word) : (s.raise c v).strlen = s.strlen := by
  by_cases h : s.fault <;> simp [State.raise, h]
@[simp] theorem raise_strbuf (c : CommandFault) (v : Word) : (s.raise c v).strbuf = s.strbuf := by
  by_cases h : s.fault <;> simp [State.raise, h]
@[simp] theorem raise_opk (c : CommandFault) (v : Word) : (s.raise c v).opk = s.opk := by
  by_cases h : s.fault <;> simp [State.raise, h]
@[simp] theorem raise_wl (c : CommandFault) (v : Word) : (s.raise c v).wl = s.wl := by
  by_cases h : s.fault <;> simp [State.raise, h]
@[simp] theorem raise_regl (c : CommandFault) (v : Word) : (s.raise c v).regl = s.regl := by
  by_cases h : s.fault <;> simp [State.raise, h]
@[simp] theorem raise_n (c : CommandFault) (v : Word) : (s.raise c v).n = s.n := by
  by_cases h : s.fault <;> simp [State.raise, h]
@[simp] theorem raise_cnt (c : CommandFault) (v : Word) : (s.raise c v).cnt = s.cnt := by
  by_cases h : s.fault <;> simp [State.raise, h]
@[simp] theorem raise_llat (c : CommandFault) (v : Word) : (s.raise c v).llat = s.llat := by
  by_cases h : s.fault <;> simp [State.raise, h]
@[simp] theorem raise_ph (c : CommandFault) (v : Word) : (s.raise c v).ph = s.ph := by
  by_cases h : s.fault <;> simp [State.raise, h]
@[simp] theorem raise_st (c : CommandFault) (v : Word) : (s.raise c v).st = s.st := by
  by_cases h : s.fault <;> simp [State.raise, h]
@[simp] theorem raise_rbuf (c : CommandFault) (v : Word) : (s.raise c v).rbuf = s.rbuf := by
  by_cases h : s.fault <;> simp [State.raise, h]
@[simp] theorem raise_failf (c : CommandFault) (v : Word) : (s.raise c v).failf = s.failf := by
  by_cases h : s.fault <;> simp [State.raise, h]
@[simp] theorem raise_bus (c : CommandFault) (v : Word) : (s.raise c v).bus = s.bus := by
  by_cases h : s.fault <;> simp [State.raise, h]
@[simp] theorem raise_trace (c : CommandFault) (v : Word) : (s.raise c v).trace = s.trace := by
  by_cases h : s.fault <;> simp [State.raise, h]
@[simp] theorem raise_reads (c : CommandFault) (v : Word) : (s.raise c v).reads = s.reads := by
  by_cases h : s.fault <;> simp [State.raise, h]
@[simp] theorem raise_agenda (c : CommandFault) (v : Word) : (s.raise c v).agenda = s.agenda := by
  by_cases h : s.fault <;> simp [State.raise, h]
@[simp] theorem raise_periph (c : CommandFault) (v : Word) : (s.raise c v).periph = s.periph := by
  by_cases h : s.fault <;> simp [State.raise, h]

@[simp] theorem writeString_busy : s.writeString.busy = s.busy := by
  by_cases h : s.failf <;> simp [State.writeString, h]
@[simp] theorem writeString_done : s.writeString.done = s.done := by
  by_cases h : s.failf <;> simp [State.writeString, h]
@[simp] theorem writeString_fault : s.writeString.fault = s.fault := by
  by_cases h : s.failf <;> simp [State.writeString, h]
@[simp] theorem writeString_cause : s.writeString.cause = s.cause := by
  by_cases h : s.failf <;> simp [State.writeString, h]
@[simp] theorem writeString_finfo : s.writeString.finfo = s.finfo := by
  by_cases h : s.failf <;> simp [State.writeString, h]
@[simp] theorem writeString_data : s.writeString.data = s.data := by
  by_cases h : s.failf <;> simp [State.writeString, h]
@[simp] theorem writeString_strlen : s.writeString.strlen = if s.failf then 0#6 else clampLength s.llat := by
  by_cases h : s.failf <;> simp [State.writeString, h]
@[simp] theorem writeString_strbuf : s.writeString.strbuf = if s.failf then emptyBuffer else copyString (clampLength s.llat) s.rbuf := by
  by_cases h : s.failf <;> simp [State.writeString, h]
@[simp] theorem writeString_opk : s.writeString.opk = s.opk := by
  by_cases h : s.failf <;> simp [State.writeString, h]
@[simp] theorem writeString_wl : s.writeString.wl = s.wl := by
  by_cases h : s.failf <;> simp [State.writeString, h]
@[simp] theorem writeString_regl : s.writeString.regl = s.regl := by
  by_cases h : s.failf <;> simp [State.writeString, h]
@[simp] theorem writeString_n : s.writeString.n = s.n := by
  by_cases h : s.failf <;> simp [State.writeString, h]
@[simp] theorem writeString_cnt : s.writeString.cnt = s.cnt := by
  by_cases h : s.failf <;> simp [State.writeString, h]
@[simp] theorem writeString_llat : s.writeString.llat = s.llat := by
  by_cases h : s.failf <;> simp [State.writeString, h]
@[simp] theorem writeString_ph : s.writeString.ph = s.ph := by
  by_cases h : s.failf <;> simp [State.writeString, h]
@[simp] theorem writeString_st : s.writeString.st = s.st := by
  by_cases h : s.failf <;> simp [State.writeString, h]
@[simp] theorem writeString_rbuf : s.writeString.rbuf = s.rbuf := by
  by_cases h : s.failf <;> simp [State.writeString, h]
@[simp] theorem writeString_failf : s.writeString.failf = s.failf := by
  by_cases h : s.failf <;> simp [State.writeString, h]
@[simp] theorem writeString_bus : s.writeString.bus = s.bus := by
  by_cases h : s.failf <;> simp [State.writeString, h]
@[simp] theorem writeString_trace : s.writeString.trace = s.trace := by
  by_cases h : s.failf <;> simp [State.writeString, h]
@[simp] theorem writeString_reads : s.writeString.reads = s.reads := by
  by_cases h : s.failf <;> simp [State.writeString, h]
@[simp] theorem writeString_agenda : s.writeString.agenda = s.agenda := by
  by_cases h : s.failf <;> simp [State.writeString, h]
@[simp] theorem writeString_periph : s.writeString.periph = s.periph := by
  by_cases h : s.failf <;> simp [State.writeString, h]

@[simp] theorem commit_busy : s.commit.busy = false := by
  by_cases h : s.opk = 0#1 <;> simp [State.commit, h]
@[simp] theorem commit_done : s.commit.done = true := by
  by_cases h : s.opk = 0#1 <;> simp [State.commit, h]
@[simp] theorem commit_fault : s.commit.fault = s.fault := by
  by_cases h : s.opk = 0#1 <;> simp [State.commit, h]
@[simp] theorem commit_cause : s.commit.cause = s.cause := by
  by_cases h : s.opk = 0#1 <;> simp [State.commit, h]
@[simp] theorem commit_finfo : s.commit.finfo = s.finfo := by
  by_cases h : s.opk = 0#1 <;> simp [State.commit, h]
@[simp] theorem commit_data : s.commit.data = if s.opk = 0#1 then (if s.failf then 0#32 else assembleScalar s.wl s.rbuf) else s.data := by
  by_cases h : s.opk = 0#1 <;> by_cases g : s.failf <;> simp [State.commit, h, g]
@[simp] theorem commit_strlen : s.commit.strlen = if s.opk = 0#1 then s.strlen else if s.failf then 0#6 else clampLength s.llat := by
  by_cases h : s.opk = 0#1 <;> by_cases g : s.failf <;> simp [State.commit, h, g]
@[simp] theorem commit_strbuf : s.commit.strbuf = if s.opk = 0#1 then s.strbuf else if s.failf then emptyBuffer else copyString (clampLength s.llat) s.rbuf := by
  by_cases h : s.opk = 0#1 <;> by_cases g : s.failf <;> simp [State.commit, h, g]
@[simp] theorem commit_opk : s.commit.opk = s.opk := by
  by_cases h : s.opk = 0#1 <;> simp [State.commit, h]
@[simp] theorem commit_wl : s.commit.wl = s.wl := by
  by_cases h : s.opk = 0#1 <;> simp [State.commit, h]
@[simp] theorem commit_regl : s.commit.regl = s.regl := by
  by_cases h : s.opk = 0#1 <;> simp [State.commit, h]
@[simp] theorem commit_n : s.commit.n = s.n := by
  by_cases h : s.opk = 0#1 <;> simp [State.commit, h]
@[simp] theorem commit_cnt : s.commit.cnt = s.cnt := by
  by_cases h : s.opk = 0#1 <;> simp [State.commit, h]
@[simp] theorem commit_llat : s.commit.llat = s.llat := by
  by_cases h : s.opk = 0#1 <;> simp [State.commit, h]
@[simp] theorem commit_ph : s.commit.ph = .a := by
  by_cases h : s.opk = 0#1 <;> simp [State.commit, h]
@[simp] theorem commit_st : s.commit.st = .idle := by
  by_cases h : s.opk = 0#1 <;> simp [State.commit, h]
@[simp] theorem commit_rbuf : s.commit.rbuf = s.rbuf := by
  by_cases h : s.opk = 0#1 <;> simp [State.commit, h]
@[simp] theorem commit_failf : s.commit.failf = s.failf := by
  by_cases h : s.opk = 0#1 <;> simp [State.commit, h]
@[simp] theorem commit_bus : s.commit.bus = .free := by
  by_cases h : s.opk = 0#1 <;> simp [State.commit, h]
@[simp] theorem commit_trace : s.commit.trace = s.trace ++ [.stop] := by
  by_cases h : s.opk = 0#1 <;> simp [State.commit, h]
@[simp] theorem commit_reads : s.commit.reads = s.reads := by
  by_cases h : s.opk = 0#1 <;> simp [State.commit, h]
@[simp] theorem commit_agenda : s.commit.agenda = s.agenda := by
  by_cases h : s.opk = 0#1 <;> simp [State.commit, h]
@[simp] theorem commit_periph : s.commit.periph = s.periph := by
  by_cases h : s.opk = 0#1 <;> simp [State.commit, h]

end Sys2Proof.Machine
end

