-- ==== Sys2Proof/Laws/Operands.lean ====
section
/-! SUPPORT. What the operand forms compute: command words as latched fields, appended bytes, buffers, the clamp. -/

namespace Sys2Proof.Machine

/-- The word of a command is its latched fields, packed. -/
theorem encode_latchWord (i : Instr) :
    encode i = match i with
      | .rd8 r => latchWord 0#1 1#3 r
      | .rd16 r => latchWord 0#1 2#3 r
      | .rd32 r => latchWord 0#1 4#3 r
      | .rdstr r => latchWord 1#1 0#3 r := by
  cases i <;> rename_i r <;> simp only [encode, matchWord, Instr.reg, latchWord] <;> revert r <;> decide +kernel

/-- A word without reserved bits is its low 12 bits. -/
theorem word_of_low_bits {w : Word} (h : fieldRsv w = 0#20) : w = (w.extractLsb' 0 12).setWidth 32 := by
  have := congrArg BitVec.toNat h
  simp only [fieldRsv, BitVec.extractLsb'_toNat, Nat.shiftRight_eq_div_pow, BitVec.toNat_ofNat] at this
  apply BitVec.eq_of_toNat_eq
  simp only [BitVec.toNat_setWidth, BitVec.extractLsb'_toNat]
  omega

/-- On words of 12 bits the decoder reads back exactly the words `latchWord` packs. -/
theorem decode_low_bits : ∀ v : BitVec 12,
    (match decode (v.setWidth 32) with
      | .ok (.rd8 r) => decide (v.setWidth 32 = latchWord 0#1 1#3 r)
      | .ok (.rd16 r) => decide (v.setWidth 32 = latchWord 0#1 2#3 r)
      | .ok (.rd32 r) => decide (v.setWidth 32 = latchWord 0#1 4#3 r)
      | .ok (.rdstr r) => decide (v.setWidth 32 = latchWord 1#1 0#3 r)
      | .error _ => true) = true := by
  decide +kernel

/-- A word that decodes is the packed fields of its command. -/
theorem decode_latchWord {v : Word} {i : Instr} (h : decode v = .ok i) :
    v = match i with
      | .rd8 r => latchWord 0#1 1#3 r
      | .rd16 r => latchWord 0#1 2#3 r
      | .rd32 r => latchWord 0#1 4#3 r
      | .rdstr r => latchWord 1#1 0#3 r := by
  by_cases hr : fieldRsv v = 0#20
  · have low := decode_low_bits (v.extractLsb' 0 12)
    rw [← word_of_low_bits hr, h] at low
    cases i <;> simpa using low
  · simp [decode, hr] at h

theorem append_toNat {n m : Nat} (x : BitVec n) (y : BitVec m) : (x ++ y).toNat = x.toNat * 2 ^ m + y.toNat := by
  rw [BitVec.toNat_append, ← Nat.shiftLeft_add_eq_or_of_lt y.isLt, Nat.shiftLeft_eq]

/-- Four bytes of a word as a number. -/
theorem append_bytes_toNat (p q r s : Byte) :
    (p ++ q ++ r ++ s : Word).toNat = p.toNat * 2 ^ 24 + q.toNat * 2 ^ 16 + r.toNat * 2 ^ 8 + s.toNat := by
  rw [append_toNat, append_toNat, append_toNat]
  ring

/-- The clamp and the count of phase B, as numbers cut to their width. -/
theorem clampLength_eq (l : Byte) :
    clampLength l = BitVec.ofNat 6 (min l.toNat 32) ∧
      clampLength l + 1#6 = BitVec.ofNat 6 (min l.toNat 32 + 1) := by
  revert l
  unfold clampLength maxStr
  decide +kernel

theorem byteAt_setIfInBounds (b : Buffer) {i : Nat} (hi : i < 33) (j : Nat) (d : Byte) :
    byteAt (b.setIfInBounds i d) j = if j = i then d else byteAt b j := by
  unfold byteAt
  by_cases h : j = i
  · subst h; simp [hi]
  · simp [h, Ne.symm h]

theorem byteAt_copyString (lc : BitVec 6) (b : Buffer) {j : Nat} (hj : j < 33) :
    byteAt (copyString lc b) j = if j < lc.toNat then byteAt b (j + 1) else 0#8 := by
  unfold copyString
  conv_lhs => unfold byteAt
  simp [hj]
  rfl

@[simp] theorem byteAt_emptyBuffer (j : Nat) : byteAt emptyBuffer j = 0#8 := by
  unfold byteAt emptyBuffer
  by_cases h : j < 33 <;> simp [h]

/-- Below `N` the count does not wrap: the last slot is found as on numbers. -/
theorem last_slot_iff {c n : BitVec 6} (h : c.toNat < n.toNat) : c + 1#6 = n ↔ c.toNat + 1 = n.toNat := by
  have := n.isLt
  constructor
  · rintro rfl
    simp only [BitVec.toNat_add, BitVec.toNat_ofNat] at *
    omega
  · intro h
    apply BitVec.eq_of_toNat_eq
    simp only [BitVec.toNat_add, BitVec.toNat_ofNat]
    omega

end Sys2Proof.Machine
end

