-- ==== Sys2Proof/Laws/PerInstr.lean ====
section
/-! SUPPORT. Facts said once per command: the fields of its word (R60, R62). -/

namespace Sys2Proof.Laws

/-- The word of a command has `RSV` = 0 and its operand in `REG` (R60, R62, R64). -/
def EncodeFields.Statement (i : Instr) : Prop :=
  fieldRsv (encode i) = 0#20 ∧ fieldReg (encode i) = i.reg

theorem EncodeFields.rd8 (reg : Byte) : EncodeFields.Statement (.rd8 reg) := by
  revert reg; unfold EncodeFields.Statement; decide +kernel

theorem EncodeFields.rd16 (reg : Byte) : EncodeFields.Statement (.rd16 reg) := by
  revert reg; unfold EncodeFields.Statement; decide +kernel

theorem EncodeFields.rd32 (reg : Byte) : EncodeFields.Statement (.rd32 reg) := by
  revert reg; unfold EncodeFields.Statement; decide +kernel

theorem EncodeFields.rdstr (reg : Byte) : EncodeFields.Statement (.rdstr reg) := by
  revert reg; unfold EncodeFields.Statement; decide +kernel

end Sys2Proof.Laws
end

