-- ==== Sys2Proof/Laws/Step.lean ====
section
/-! SUPPORT. Everything a step can do, said once: the inversion lemmas of the micro-step, of a command write, of a
host turn and of the step. Proofs take these apart instead of unfolding the step function. -/

namespace Sys2Proof.Machine

variable {s t : State}

/-- The micro-steps of the controller, one constructor per outcome (R90 to R98). -/
inductive MicroStep (s : State) : State → Prop where
  | idle : s.st = .idle → MicroStep s s
  | start : s.st = .start → MicroStep s (stepStart s)
  | restart : s.st = .rstart → MicroStep s (stepRStart s)
  | writeAcked (p : Periph) : s.st = .addrw →
      MicroStep s (({ s with periph := p }.emit (.sent (addrWrite Config.periphAddr) .ack)).goto .cmdb)
  | registerAcked (p : Periph) : s.st = .cmdb →
      MicroStep s (({ s with periph := p }.emit (.sent s.regl .ack)).goto .rstart)
  | readAcked (p : Periph) : s.st = .addrr →
      MicroStep s (({ s with periph := p }.emit (.sent (addrRead Config.periphAddr) .ack)).openReceive)
  | nacked (p : Periph) (b : Byte) :
      (s.st = .addrw ∧ b = addrWrite Config.periphAddr) ∨ (s.st = .cmdb ∧ b = s.regl) ∨
        (s.st = .addrr ∧ b = addrRead Config.periphAddr) →
      MicroStep s ({ s with periph := p }.emit (.sent b .nack)).failTransaction
  | received (p : Periph) (d : Byte) : s.st = .datab → s.cnt < s.n → s.n ≤ 33#6 →
      MicroStep s (({ s with periph := p }.emit (.received d (masterAck (s.cnt + 1#6 = s.n)))).storeByte d)
  | timedOut (p : Periph) : s.st = .datab → s.cnt < s.n → s.n ≤ 33#6 →
      MicroStep s ({ s with periph := p }.emit .timeout).failTransaction
  | phaseB : s.st = .stop → s.opk = 1#1 → s.ph = .a → s.failf = false → MicroStep s s.release.startPhaseB
  | commit : s.st = .stop → ¬ (s.opk = 1#1 ∧ s.ph = .a ∧ s.failf = false) → MicroStep s s.commit

theorem transmit_acked {b : Byte} {f : State → State} {p : Periph} (h : s.periph.ack = (.ack, p)) :
    transmit b f s = f ({ s with periph := p }.emit (.sent b .ack)) := by
  simp [transmit, h]

theorem transmit_nacked {b : Byte} {f : State → State} {p : Periph} (h : s.periph.ack = (.nack, p)) :
    transmit b f s = ({ s with periph := p }.emit (.sent b .nack)).failTransaction := by
  simp [transmit, h]

/-- A micro-step that answers a next state is one of `MicroStep`. -/
theorem microStep_cases (h : microStep s = .next t) : MicroStep s t := by
  cases hs : s.st <;> simp only [microStep, hs, Host.Outcome.next.injEq] at h
  case idle => subst h; exact .idle hs
  case start => subst h; exact .start hs
  case rstart => subst h; exact .restart hs
  case addrw =>
    subst h
    rcases ha : s.periph.ack with ⟨_ | _, p⟩
    · rw [stepAddrW, transmit_acked ha]; exact .writeAcked p hs
    · rw [stepAddrW, transmit_nacked ha]; exact .nacked p _ (.inl ⟨hs, rfl⟩)
  case cmdb =>
    subst h
    rcases ha : s.periph.ack with ⟨_ | _, p⟩
    · rw [stepCmdB, transmit_acked ha]; exact .registerAcked p hs
    · rw [stepCmdB, transmit_nacked ha]; exact .nacked p _ (.inr (.inl ⟨hs, rfl⟩))
  case addrr =>
    subst h
    rcases ha : s.periph.ack with ⟨_ | _, p⟩
    · rw [stepAddrR, transmit_acked ha]; exact .readAcked p hs
    · rw [stepAddrR, transmit_nacked ha]; exact .nacked p _ (.inr (.inr ⟨hs, rfl⟩))
  case datab =>
    unfold stepDataB at h
    split at h
    · rename_i g
      rcases hd : s.periph.slot with ⟨d | _, p⟩ <;> simp only [hd, Host.Outcome.next.injEq] at h <;> subst h
      · exact .received p d hs g.1 g.2
      · exact .timedOut p hs g.1 g.2
    · cases h
  case stop =>
    subst h
    unfold stepStop
    split
    · rename_i g; exact .phaseB hs g.1 g.2.1 g.2.2
    · rename_i g; exact .commit hs g

/-- A micro-step answers a next state but in a receive slot outside R95's side condition. -/
theorem microStep_answers (h : s.st = .datab → s.cnt < s.n ∧ s.n ≤ 33#6) : ∃ t, microStep s = .next t := by
  cases hs : s.st <;> simp only [microStep, hs, Host.Outcome.next.injEq, exists_eq']
  unfold stepDataB
  rw [if_pos (h hs)]
  split <;> exact ⟨_, rfl⟩

/-- What a write to `CMD` does: accepted, dropped or rejected (R154 to R156). -/
inductive CommandWrite (v : Word) (s : State) : State → Prop where
  | accepted (i : Instr) (o : BitVec 1) (w : BitVec 3) (r : Byte) : s.busy = false → decode v = .ok i → FieldsLegal o w →
      v = latchWord o w r → CommandWrite v s (s.latch o w r).beginOperation
  | dropped : s.busy = true → CommandWrite v s (s.raise .commandWhileBusy v)
  | rejected (c : Illegal) : s.busy = false → decode v = .error c → CommandWrite v s (s.raise .illegalCommand v)

theorem issue_accepted {o : BitVec 1} {w : BitVec 3} {r : Byte} (h : s.busy = false) :
    issue o w r s = .next (s.latch o w r).beginOperation := by
  simp [issue, h]

theorem issue_dropped {o : BitVec 1} {w : BitVec 3} {r : Byte} (h : s.busy = true) :
    issue o w r s = .next (s.raise .commandWhileBusy (latchWord o w r)) := by
  simp [issue, h]

/-- A write to `CMD` always answers a next state, and it is one of `CommandWrite`. -/
theorem writeCommand_cases (v : Word) (s : State) : ∃ t, writeCommand v s = .next t ∧ CommandWrite v s t := by
  unfold writeCommand
  cases d : decode v with
  | error c =>
    cases b : s.busy
    · exact ⟨_, by simp [rejectCommand, b], .rejected c b d⟩
    · exact ⟨_, by simp [rejectCommand, b], .dropped b⟩
  | ok i =>
    have e := decode_latchWord d
    cases b : s.busy
    · cases i
      · exact ⟨_, issue_accepted b, .accepted _ _ _ _ b d (by decide) e⟩
      · exact ⟨_, issue_accepted b, .accepted _ _ _ _ b d (by decide) e⟩
      · exact ⟨_, issue_accepted b, .accepted _ _ _ _ b d (by decide) e⟩
      · exact ⟨_, issue_accepted b, .accepted _ _ _ _ b d (by decide) e⟩
    · refine ⟨s.raise .commandWhileBusy v, ?_, .dropped b⟩
      cases i <;> simp only at e <;> subst e <;> exact issue_dropped b

/-- The turns of the host other than `Reset`, taken from the agenda, that answer a next state (R150, R151, R73). -/
inductive HostTurn (u : Turn) (s : State) : State → Prop where
  | otherWrite (off : Offset) (v : Word) : u = .write off v → off ≠ 0x00#7 → HostTurn u s s
  | commandWrite (v : Word) (t : State) : u = .write 0x00#7 v → CommandWrite v s t → HostTurn u s t
  | read (off : Offset) : u = .read off → HostTurn u s (s.logRead off)
  | wait (later : List Turn) : u = .wait → HostTurn u s { s.logRead 0x04#7 with agenda := later }

/-- Everything a step can do: a micro-step, a turn of the host, or `Reset`. -/
inductive StepTo (s : State) : State → Prop where
  | controller (t : State) : ControllerNext s → MicroStep { s with agenda := s.agenda.tail } t → StepTo s t
  | host (u : Turn) (rest : List Turn) (t : State) : s.agenda = u :: rest → HostTurn u { s with agenda := rest } t → StepTo s t
  | reset : ResetNext s → StepTo s { s with agenda := s.agenda.tail }.resetAction

theorem step_of_silent (h : s.agenda = []) : step s = microStep s := by
  simp [step, h]

theorem step_of_turn {u : Turn} {rest : List Turn} (h : s.agenda = u :: rest) :
    step s = takeTurn u { s with agenda := rest } := by
  simp [step, h]

/-- A step that answers a next state is one of `StepTo`. -/
theorem step_cases (h : step s = .next t) : StepTo s t := by
  cases ha : s.agenda with
  | nil =>
    have e : { s with agenda := s.agenda.tail } = s := by rw [ha, List.tail_nil, ← ha]
    rw [step_of_silent ha] at h
    exact .controller t (.inl ha) (by rw [e]; exact microStep_cases h)
  | cons u rest =>
    rw [step_of_turn ha] at h
    have tail : s.agenda.tail = rest := by rw [ha]; rfl
    cases u with
    | controller => exact .controller t (.inr (by rw [ha]; rfl)) (by rw [tail]; exact microStep_cases h)
    | reset =>
      simp only [takeTurn, Host.Outcome.next.injEq] at h
      subst h; rw [← tail]
      exact .reset (by rw [ResetNext, ha]; rfl)
    | read off =>
      simp only [takeTurn, hostRead] at h
      split at h
      · simp only [Host.Outcome.next.injEq] at h
        subst h
        exact .host _ rest _ ha (.read off rfl)
      · cases h
    | wait =>
      simp only [takeTurn, hostWait, Host.Outcome.next.injEq] at h
      subst h
      split
      · exact .host _ rest _ ha (.wait _ rfl)
      · exact .host _ rest _ ha (.wait rest rfl)
    | write off v =>
      simp only [takeTurn, hostWrite] at h
      split at h
      · split at h
        · rename_i h0
          subst h0
          obtain ⟨t', hw, c⟩ := writeCommand_cases v { s with agenda := rest }
          rw [hw] at h
          simp only [Host.Outcome.next.injEq] at h
          subst h
          exact .host _ rest _ ha (.commandWrite v _ rfl c)
        · rename_i h0
          simp only [Host.Outcome.next.injEq] at h
          subst h
          exact .host _ rest _ ha (.otherWrite off v rfl h0)
      · cases h

end Sys2Proof.Machine
end

