-- ==== Sys2Proof/Laws/Run.lean ====
section
/-! SUPPORT. Runs of the machine: putting steps together, and the answers of the peripheral. -/

namespace Sys2Proof.Machine

variable {s t u : State} {j k : Nat}

theorem Runs.refl (s : State) : Runs 0 s s := rfl

theorem Runs.cons (h : step s = .next t) (r : Runs k t u) : Runs (k + 1) s u := by
  have e : Sys2Proof.core.step s = .next t := h
  simp only [Runs, Host.Core.run, e]
  exact r

theorem Runs.one (h : step s = .next t) : Runs 1 s t := Runs.cons h (Runs.refl t)

theorem Runs.trans (h : Runs k s t) (g : Runs j t u) : Runs (k + j) s u := by
  induction k generalizing s with
  | zero => cases h; simpa using g
  | succ k ih =>
    simp only [Runs, Host.Core.run] at h
    split at h
    · rename_i hs
      rw [Nat.add_right_comm]
      exact Runs.cons hs (ih h)
    · cases h
    · cases h

/-- With the host silent a micro-step is a step. -/
theorem Runs.micro (ha : s.agenda = []) (h : microStep s = .next t) (r : Runs k t u) : Runs (k + 1) s u :=
  Runs.cons ((step_of_silent ha).trans h) r

@[simp] theorem Periph.ack_listed (a : Ack) (acks : List Ack) (slots : List SlotAnswer) (n : Nat) :
    Periph.ack ⟨a :: acks, slots, n⟩ = (a, ⟨acks, slots, n⟩) := rfl

@[simp] theorem Periph.ack_free (slots : List SlotAnswer) (n : Nat) :
    Periph.ack ⟨[], slots, n⟩ = (Config.freeAck n, ⟨[], slots, n + 1⟩) := rfl

@[simp] theorem Periph.slot_listed (d : SlotAnswer) (acks : List Ack) (slots : List SlotAnswer) (n : Nat) :
    Periph.slot ⟨acks, d :: slots, n⟩ = (d, ⟨acks, slots, n⟩) := rfl

@[simp] theorem Periph.slot_free (acks : List Ack) (n : Nat) :
    Periph.slot ⟨acks, [], n⟩ = (Config.freeSlot n, ⟨acks, [], n + 1⟩) := rfl

end Sys2Proof.Machine
end

