-- ==== Sys2Proof/Tests/Slice0.lean ====
section
/-! SUPPORT. Tests against the spec's encodings and vectors (95_test_vectors.md), and, for every obligation with hypotheses,
a concrete state and operands that meet them together (witness_<name of the obligation>). -/

namespace Sys2Proof.Tests

open Sys2Proof.Machine

/-! ### Well-formedness and refusal -/

/-- R72: "a number 0 to 255". -/
theorem test_number_256_ill_formed :
    (AsmLine.mk .rd8 (.number 256)).wf = false ∧ assemble ⟨.rd8, .number 256⟩ = none := by decide

theorem test_number_255_well_formed :
    (AsmLine.mk .rdstr (.number 255)).wf = true ∧ assemble ⟨.rdstr, .number 255⟩ = some 0x000008FF#32 := by decide

/-- R47: an offset that is no multiple of 4 is no access the model can express. -/
theorem test_offset_2_refused :
    Offset.isWord 0x02#7 = false ∧ hostWrite 0x02#7 0x0000010E#32 State.reset = .refused (.notWordOffset 0x02#7) ∧
      hostRead 0x7D#7 State.reset = .refused (.notWordOffset 0x7D#7) :=
  ⟨rfl, rfl, rfl⟩

theorem test_offset_7C_is_word : Offset.isWord 0x7C#7 = true := by decide

/-! ### Decoding: words written bit by bit as RSV[31:12] STR[11] WIDTH[10:8] REG[7:0] (R60, R62) -/

theorem test_decode_rd8 : decode 0b00000000000000000000_0_001_00001110#32 = .ok (.rd8 0x0E#8) := by decide

theorem test_decode_rd16 : decode 0b00000000000000000000_0_010_00001000#32 = .ok (.rd16 0x08#8) := by decide

theorem test_decode_rd32 : decode 0b00000000000000000000_0_100_01010000#32 = .ok (.rd32 0x50#8) := by decide

theorem test_decode_rdstr : decode 0b00000000000000000000_1_000_00100001#32 = .ok (.rdstr 0x21#8) := by decide

/-- The operand's ends, 95_test_vectors.md 3.1. -/
theorem test_decode_operand_ends :
    decode 0x00000100#32 = .ok (.rd8 0x00#8) ∧ decode 0x000001FF#32 = .ok (.rd8 0xFF#8) := by decide

/-- R66, the illegal words of 95_test_vectors.md 3.1. -/
theorem test_decode_unsupported_width :
    decode 0x00000008#32 = .error .unsupportedWidth ∧ decode 0x00000308#32 = .error .unsupportedWidth ∧
    decode 0x00000508#32 = .error .unsupportedWidth ∧ decode 0x00000608#32 = .error .unsupportedWidth ∧
    decode 0x00000708#32 = .error .unsupportedWidth ∧ decode 0x00000000#32 = .error .unsupportedWidth := by decide

theorem test_decode_width_with_string :
    decode 0x00000908#32 = .error .widthWithString ∧ decode 0x00000C08#32 = .error .widthWithString ∧
    decode 0x00000F08#32 = .error .widthWithString := by decide

theorem test_decode_reserved_bits :
    decode 0x00001208#32 = .error .reservedBits ∧ decode 0x80000208#32 = .error .reservedBits ∧
    decode 0xFFFFFFFF#32 = .error .reservedBits := by decide

/-- 95_test_vectors.md 3.1, "Encoding". -/
theorem test_assemble :
    assemble ⟨.rd16, .number 0x08⟩ = some 0x00000208#32 ∧ assemble ⟨.rdstr, .number 0x21⟩ = some 0x00000821#32 := by decide

theorem test_decode_table_word :
    decodeTableWord 32 0x00000450 = some (.rd32 0x50#8) ∧ decodeTableWord 32 0x00000308 = none := by decide

/-- R69, 95_test_vectors.md 3.1, "Address bytes". -/
theorem test_address_bytes :
    addrWrite 0x0B#7 = 0x16#8 ∧ addrRead 0x0B#7 = 0x17#8 ∧ addrWrite 0x7F#7 = 0xFE#8 ∧ addrRead 0x7F#7 = 0xFF#8 := by decide

/-! ### Vectors of 95_test_vectors.md, one step or one operation each -/

/-- A receive buffer that begins with the given bytes. -/
def received (bytes : List Byte) : Buffer := Vector.ofFn fun i : Fin 33 => bytes.getD i.val 0#8

/-- An operation under way, at the step `st` of phase A, with its bytes received. -/
def running (opk : BitVec 1) (wl : BitVec 3) (reg : Byte) (st : SeqState) (bytes : List Byte) : State :=
  { State.reset with
    busy := true
    opk := opk
    wl := wl
    regl := reg
    n := firstCount opk wl
    cnt := BitVec.ofNat 6 bytes.length
    rbuf := received bytes
    bus := if st = .start then .free else .owned
    st := st }

/-- A string operation in phase B, all bytes received but the stop. -/
def endOfString (bytes : List Byte) : State :=
  { running 1#1 0#3 0x21#8 .stop bytes with
    ph := .b
    llat := BitVec.ofNat 8 (bytes.length - 1)
    n := BitVec.ofNat 6 bytes.length }

/-- `s` with the given next turns. -/
def withTurns (s : State) (turns : List Turn) : State := { s with agenda := turns }

/-- `s` with a peripheral that will answer as listed. -/
def answering (s : State) (acks : List Ack) (slots : List SlotAnswer) : State := { s with periph := ⟨acks, slots, 0⟩ }

/-- S2, S6, S7, S10d, S15: the assembler. -/
theorem test_assembler_vectors :
    assembleScalar 2#3 (received [0xB8#8, 0x0B#8]) = 0x00000BB8#32 ∧
    assembleScalar 4#3 (received [0x04#8, 0x78#8, 0x56#8, 0x34#8, 0x12#8]) = 0x12345678#32 ∧
    assembleScalar 4#3 (received [0xFF#8, 0x78#8, 0x56#8, 0x34#8, 0x12#8]) = 0x12345678#32 ∧
    assembleScalar 4#3 (received [0x04#8, 0x00#8, 0x00#8, 0x00#8, 0x01#8]) = 0x01000000#32 ∧
    assembleScalar 4#3 (received [0x34#8, 0x12#8, 0xFF#8, 0xFF#8, 0xFF#8]) = 0xFFFFFF12#32 := by decide

/-- S4: not sign-extended; S8a: an eight-bit value. -/
theorem test_assembler_unsigned :
    assembleScalar 2#3 (received [0x0C#8, 0xFE#8]) = 0x0000FE0C#32 ∧
    assembleScalar 1#3 (received [0xFF#8, 0x0B#8]) = 0x000000FF#32 := by decide

/-- T3, T4, T5: the declared lengths 0x20, 0x21, 0xFF. -/
theorem test_clamp_vectors : clampLength 0x20#8 = 32#6 ∧ clampLength 0x21#8 = 32#6 ∧ clampLength 0xFF#8 = 32#6 ∧
    clampLength 0x00#8 = 0#6 := by decide

/-- T13, "HELLO": the word view. -/
theorem test_word_view_hello :
    let b := copyString 5#6 (received [0x05#8, 0x48#8, 0x45#8, 0x4C#8, 0x4C#8, 0x4F#8])
    stringWord b 0 = 0x4C4C4548#32 ∧ stringWord b 1 = 0x0000004F#32 ∧ stringWord b 8 = 0x00000000#32 := by decide

/-- S2: the commit of RD16, and the `STATUS` after it. -/
theorem test_commit_rd16 :
    (running 0#1 2#3 0x08#8 .stop [0xB8#8, 0x0B#8]).commit.data = 0x00000BB8#32 ∧
    hostValue 0x04#7 (running 0#1 2#3 0x08#8 .stop [0xB8#8, 0x0B#8]).commit = 0x00000002#32 := by decide

/-- T1, T9: the commit of RDSTR drops the duplicate length byte, whatever it is. -/
theorem test_commit_rdstr :
    (endOfString [0x03#8, 0x41#8, 0x42#8, 0x43#8]).commit.strbuf = received [0x41#8, 0x42#8, 0x43#8] ∧
    (endOfString [0x05#8, 0x48#8, 0x45#8, 0x4C#8]).commit.strbuf = received [0x48#8, 0x45#8, 0x4C#8] ∧
    (endOfString [0x03#8, 0x41#8, 0x42#8, 0x43#8]).commit.strlen = 3#6 := by decide

/-- P5, row 3: the end of phase A with the declared length 0x28. -/
theorem test_phase_a_ends :
    (stepStop (running 1#1 0#3 0x20#8 .stop [0x28#8])).llat = 0x28#8 ∧
    (stepStop (running 1#1 0#3 0x20#8 .stop [0x28#8])).n = 33#6 ∧
    (stepStop (running 1#1 0#3 0x20#8 .stop [0x28#8])).busy = true := by decide

/-- H2, H5: IllegalCommand, and a second fault. -/
theorem test_illegal_command :
    let s := rejectCommand 0x00000308#32 State.reset
    let t := rejectCommand 0x00000F08#32 s
    hostValue 0x04#7 s = 0x00000014#32 ∧ hostValue 0x08#7 s = 0x00000308#32 ∧ hostValue 0x00#7 s = 0x00000000#32 ∧
      hostValue 0x04#7 t = 0x00000014#32 ∧ hostValue 0x08#7 t = 0x00000308#32 := by decide

/-- H4: the busy test comes first. -/
theorem test_illegal_while_busy :
    let s := rejectCommand 0x00000308#32 (running 0#1 2#3 0x08#8 .start [])
    hostValue 0x04#7 s = 0x00000025#32 ∧ hostValue 0x08#7 s = 0x00000308#32 ∧
      hostValue 0x00#7 s = 0x00000208#32 := by decide

/-- H3: a legal word while busy. -/
theorem test_command_while_busy :
    exec (.rd8 0x0E#8) (running 0#1 2#3 0x08#8 .start []) =
      .next { running 0#1 2#3 0x08#8 .start [] with fault := true, cause := 2#2, finfo := 0x0000010E#32 } := rfl

/-- H11: `Reset` while the bus is owned leaves the marker X and nothing else. -/
theorem test_reset_marks_trace :
    { running 0#1 2#3 0x08#8 .rstart [] with trace := [.start] }.resetAction =
      { State.reset with trace := [.start, .abandoned] } := by decide

/-- P1, row 2: a command placed after reset is the first thing the machine runs. -/
theorem test_fetch_word_rd16 :
    step (State.reset.withFetchWord 32 0x00000208) = .next (running 0#1 2#3 0x08#8 .start []) := rfl

theorem test_fetch_word_rdstr :
    step (State.reset.withFetchWord 32 0x00000821) = .next (running 1#1 0#3 0x21#8 .start []) := rfl

/-- S14: a timeout in the second receive slot. -/
theorem test_timeout_in_slot :
    microStep (answering (running 0#1 2#3 0x08#8 .datab [0xB8#8]) [] [.timeout]) =
      .next { running 0#1 2#3 0x08#8 .stop [0xB8#8] with trace := [.timeout], failf := true } := rfl

/-- S2: the last byte of a transaction is not acknowledged by the master. -/
theorem test_last_byte_nacked :
    microStep (answering (running 0#1 2#3 0x08#8 .datab [0xB8#8]) [] [.byte 0x0B#8]) =
      .next { running 0#1 2#3 0x08#8 .stop [0xB8#8, 0x0B#8] with trace := [.received 0x0B#8 .nack] } := by
  have h : (received [0xB8#8]).setIfInBounds 1 0x0B#8 = received [0xB8#8, 0x0B#8] := by decide
  have e : microStep (answering (running 0#1 2#3 0x08#8 .datab [0xB8#8]) [] [.byte 0x0B#8]) =
      .next { running 0#1 2#3 0x08#8 .stop [0xB8#8, 0x0B#8] with
        trace := [.received 0x0B#8 .nack], rbuf := (received [0xB8#8]).setIfInBounds 1 0x0B#8 } := rfl
  rw [e, h]
  rfl

/-- S1: MemRead of one byte, all symbols. -/
theorem test_memRead_one_byte :
    (memRead 0x0E#8 1 ⟨[.ack, .ack, .ack], [.byte 0x5A#8], 0⟩).symbols =
      [.start, .sent (addrWrite Config.periphAddr) .ack, .sent 0x0E#8 .ack, .restart,
        .sent (addrRead Config.periphAddr) .ack, .received 0x5A#8 .nack, .stop] := rfl

/-! ### Witnesses -/

theorem witness_EncodeOfDecode : decode 0x000008FF#32 = .ok (.rdstr 0xFF#8) := by decide

theorem witness_AssembledLinesDecode : (0 : Nat) ≤ 255 ∧ (255 : Nat) ≤ 255 ∧ (255 : Nat) < 256 := by decide

theorem witness_StepRunsDecodedCommand :
    (withTurns State.reset [.write 0x00#7 0x00000450#32, .wait]).agenda = .write 0x00#7 0x00000450#32 :: [.wait] ∧
      decode 0x00000450#32 = .ok (.rd32 0x50#8) := by decide

theorem witness_LegalWriteAccepted :
    State.reset.busy = false ∧ Legal 0x00000100#32 ∧ Legal 0x000002FF#32 ∧ Legal 0x00000450#32 ∧ Legal 0x00000821#32 := by
  decide

theorem witness_CommandsBegin : State.reset.busy = false := rfl

theorem witness_IllegalWriteRecorded :
    State.reset.busy = false ∧ State.reset.fault = false ∧ ¬ Legal 0x00000308#32 ∧ ¬ Legal 0x00001208#32 ∧
      (rejectCommand 0x00000308#32 State.reset).busy = false ∧ (rejectCommand 0x00000308#32 State.reset).fault = true := by
  decide

theorem witness_BusyWriteDropped : (running 0#1 2#3 0x08#8 .start []).busy = true := rfl

theorem witness_FaultEntry :
    (rejectCommand 0x00000308#32 State.reset).fault = true ∧ State.reset.fault = false := by decide

/-- A state that holds a fault record and has a host write and a `Reset` to come. -/
def recorded : State :=
  { State.reset with
    fault := true, cause := 1#2, finfo := 0x00000308#32, agenda := [.write 0x00#7 0x00000F08#32, .reset] }

theorem witness_FaultRecordStays :
    recorded.fault = true ∧ ¬ ResetNext recorded ∧ step recorded = .next (withTurns recorded [.reset]) :=
  ⟨rfl, by decide, rfl⟩

/-- Both causes. -/
theorem witness_FaultOnlyFromCommandWrite :
    (∃ t, step (withTurns State.reset [.write 0x00#7 0x00000308#32]) = .next t ∧ t.fault = true ∧ t.cause = 1#2) ∧
    (∃ t, step (withTurns (running 0#1 1#3 0x0E#8 .start []) [.write 0x00#7 0x00000208#32]) = .next t ∧
      t.fault = true ∧ t.cause = 2#2) ∧
    State.reset.fault = false ∧ (running 0#1 1#3 0x0E#8 .start []).fault = false :=
  ⟨⟨_, rfl, rfl, rfl⟩, ⟨_, rfl, rfl, rfl⟩, rfl, rfl⟩

/-- Accepted, and dropped. -/
theorem witness_CommandFrame :
    (∃ t, exec (.rd32 0x50#8) State.reset = .next t) ∧ State.reset.busy = false ∧
    (∃ t, exec (.rdstr 0x21#8) (running 0#1 1#3 0x0E#8 .start []) = .next t) ∧
    (running 0#1 1#3 0x0E#8 .start []).busy = true :=
  ⟨⟨_, rfl⟩, rfl, ⟨_, rfl⟩, rfl⟩

/-- The ends of the string words and of the reserved ranges. -/
theorem witness_HostReadTable :
    Offset.isWord 0x00#7 = true ∧ BitVec.ofNat 7 (0x20 + 4 * 0) = 0x20#7 ∧ BitVec.ofNat 7 (0x20 + 4 * 8) = 0x40#7 ∧
    (0x14 ≤ (0x14#7).toNat ∧ (0x14#7).toNat < 0x20) ∧ (0x14 ≤ (0x1C#7).toNat ∧ (0x1C#7).toNat < 0x20) ∧
    0x40 < (0x44#7).toNat ∧ 0x40 < (0x7C#7).toNat := by decide

/-- Index 32, the last of the buffer, and index 33, past it. -/
theorem witness_StringWordBytes :
    (8 ≤ 8 ∧ 0 < 4 ∧ 4 * 8 + 0 < 33) ∧ (8 ≤ 8 ∧ 1 < 4 ∧ ¬ 4 * 8 + 1 < 33) := by decide

theorem witness_OtherWritesIgnored :
    Offset.isWord 0x04#7 = true ∧ 0x04#7 ≠ 0x00#7 ∧ Offset.isWord 0x7C#7 = true ∧ 0x7C#7 ≠ 0x00#7 := by decide

theorem witness_NarrowAccessRefused :
    ¬ 4 ∣ (0x01#7).toNat ∧ ¬ 4 ∣ (0x42#7).toNat ∧ ¬ 4 ∣ (0x7F#7).toNat := by decide

theorem witness_ResetActionValues :
    (withTurns (running 0#1 2#3 0x08#8 .rstart []) [.reset]).agenda = .reset :: [] ∧
      (withTurns (running 0#1 2#3 0x08#8 .rstart []) [.reset]).bus = .owned := by decide

theorem witness_IdleBlockIsSilent : State.reset.st = .idle ∧ State.reset.agenda = [] := by decide

theorem witness_StartAndRestartSteps :
    (running 0#1 1#3 0x0E#8 .start []).st = .start ∧ (running 0#1 1#3 0x0E#8 .rstart []).st = .rstart := by decide

theorem witness_TransmitSteps :
    (answering State.reset [.ack] []).periph.ack = (.ack, ⟨[], [], 0⟩) ∧
    (answering State.reset [.nack] []).periph.ack = (.nack, ⟨[], [], 0⟩) ∧
    (running 0#1 1#3 0x0E#8 .addrw []).st = .addrw ∧ (running 0#1 1#3 0x0E#8 .cmdb []).st = .cmdb ∧
    (running 0#1 1#3 0x0E#8 .addrr []).st = .addrr := by decide

/-- The only byte of a transaction, the last but one of the longest, and the last of the longest; a timeout. -/
theorem witness_ReceiveStep :
    let s := fun (n c : BitVec 6) (d : SlotAnswer) => answering { State.reset with st := .datab, n := n, cnt := c } [] [d]
    ((s 1#6 0#6 (.byte 0x5A#8)).cnt.toNat < (s 1#6 0#6 (.byte 0x5A#8)).n.toNat) ∧
    ((s 33#6 31#6 (.byte 0x5A#8)).cnt.toNat + 1 < (s 33#6 31#6 (.byte 0x5A#8)).n.toNat) ∧
    ((s 33#6 32#6 (.byte 0x5A#8)).cnt.toNat < (s 33#6 32#6 (.byte 0x5A#8)).n.toNat) ∧
    (s 33#6 32#6 (.byte 0x5A#8)).n.toNat ≤ 33 ∧ (s 33#6 32#6 (.byte 0x5A#8)).st = .datab ∧
    (s 33#6 32#6 (.byte 0x5A#8)).periph.slot = (.byte 0x5A#8, ⟨[], [], 0⟩) ∧
    (s 33#6 0#6 .timeout).periph.slot = (.timeout, ⟨[], [], 0⟩) := by decide

theorem witness_PhaseAEnds :
    let s := running 1#1 0#3 0x20#8 .stop [0x28#8]
    s.st = .stop ∧ s.opk = 1#1 ∧ s.ph = .a ∧ s.failf = false := by decide

theorem witness_ScalarCommit :
    (running 0#1 2#3 0x08#8 .stop [0xB8#8, 0x0B#8]).st = .stop ∧
      (running 0#1 2#3 0x08#8 .stop [0xB8#8, 0x0B#8]).opk = 0#1 ∧
      (running 0#1 2#3 0x08#8 .stop [0xB8#8, 0x0B#8]).wl = 2#3 := by decide

/-- After phase B, and after a failure in phase A. -/
theorem witness_StringCommit :
    let s := endOfString [0x03#8, 0x41#8, 0x42#8, 0x43#8]
    let f := { running 1#1 0#3 0x20#8 .stop [] with failf := true }
    (s.st = .stop ∧ s.opk = 1#1 ∧ s.ph = .b ∧ s.failf = false) ∧ (f.st = .stop ∧ f.opk = 1#1 ∧ f.ph = .a ∧ f.failf = true) := by
  decide

theorem witness_AssemblerBytes :
    (1#3 = 1#3 ∧ 0 < (1#3).toNat) ∧ (2#3 = 2#3 ∧ 1 < (2#3).toNat) ∧ (4#3 = 4#3 ∧ 3 < (4#3).toNat) := by decide

/-- All five shapes of R85 occur. -/
theorem witness_TransactionShapes :
    (memRead 0x08#8 2 ⟨[.ack, .ack, .ack], [.byte 0xB8#8, .byte 0x0B#8], 0⟩).ok = true ∧
    (memRead 0x08#8 2 ⟨[.nack], [], 0⟩).ok = false ∧ (memRead 0x08#8 2 ⟨[.ack, .nack], [], 0⟩).ok = false ∧
    (memRead 0x08#8 2 ⟨[.ack, .ack, .nack], [], 0⟩).ok = false ∧
    (memRead 0x08#8 2 ⟨[.ack, .ack, .ack], [.byte 0xB8#8, .timeout], 0⟩).ok = false := by decide

/-- The shortest and the longest transaction. -/
theorem witness_SequencerRunsMemRead :
    let s := fun n : BitVec 6 => { running 0#1 1#3 0x0E#8 .start [] with n := n }
    (s 1#6).st = .start ∧ (s 1#6).failf = false ∧ (s 1#6).agenda = [] ∧ 1 ≤ (s 1#6).n.toNat ∧
      (s 33#6).st = .start ∧ (s 33#6).failf = false ∧ (s 33#6).agenda = [] ∧ (s 33#6).n.toNat ≤ 33 := by decide

theorem witness_Rd8ReadsOneByte : State.reset.busy = false ∧ State.reset.agenda = [] := by decide

theorem witness_Rd16ReadsTwoBytes :
    (answering State.reset [.ack, .ack, .ack] [.byte 0xB8#8, .byte 0x0B#8]).busy = false ∧
      (answering State.reset [.ack, .ack, .ack] [.byte 0xB8#8, .byte 0x0B#8]).agenda = [] := by decide

theorem witness_Rd32ReadsFourBytes : (answering State.reset [.nack] []).busy = false ∧ (answering State.reset [.nack] []).agenda = [] := by
  decide

theorem witness_RdstrReadsString : State.reset.busy = false ∧ State.reset.agenda = [] := by decide

/-- The peripheral of a string round trip. -/
def stringPeripheral (len dup : Byte) (chars : List Byte) : State :=
  answering State.reset (List.replicate 6 .ack) (.byte len :: .byte dup :: chars.map .byte)

/-- The empty string and the longest. -/
theorem witness_StringRoundTrip :
    (∃ chars : List Byte, chars.length = 0 ∧ (stringPeripheral 0x00#8 0xFF#8 chars).periph.slots =
      SlotAnswer.byte (BitVec.ofNat 8 chars.length) :: SlotAnswer.byte 0xFF#8 :: (chars.map SlotAnswer.byte ++ [])) ∧
    (∃ chars : List Byte, chars.length = 32 ∧ (stringPeripheral 0x20#8 0x20#8 chars).periph.slots =
      SlotAnswer.byte (BitVec.ofNat 8 chars.length) :: SlotAnswer.byte 0x20#8 :: (chars.map SlotAnswer.byte ++ [])) ∧
    (stringPeripheral 0x20#8 0x20#8 []).busy = false ∧ (stringPeripheral 0x20#8 0x20#8 []).agenda = [] ∧
    (stringPeripheral 0x20#8 0x20#8 []).periph.acks = List.replicate 6 Ack.ack ++ [] :=
  ⟨⟨[], by decide⟩, ⟨List.replicate 32 0x41#8, by decide⟩, by decide⟩

/-- The declared lengths 33 and 255. -/
theorem witness_LongStringTruncated :
    32 < (0x21#8).toNat ∧ 32 < (0xFF#8).toNat ∧
    (∃ chars : List Byte, chars.length = 32 ∧ (stringPeripheral 0xFF#8 0x20#8 chars).periph.slots =
      SlotAnswer.byte 0xFF#8 :: SlotAnswer.byte 0x20#8 :: (chars.map SlotAnswer.byte ++ [])) ∧
    (stringPeripheral 0xFF#8 0x20#8 []).busy = false ∧ (stringPeripheral 0xFF#8 0x20#8 []).agenda = [] ∧
    (stringPeripheral 0xFF#8 0x20#8 []).periph.acks = List.replicate 6 Ack.ack ++ [] :=
  ⟨by decide, by decide, ⟨List.replicate 32 0x41#8, by decide⟩, by decide⟩

/-- The invariant holds in a string operation about to receive the last of 33 bytes, which no shortcut from reset reaches. -/
def lastSlot : State :=
  { running 1#1 0#3 0x20#8 .datab [] with ph := .b, llat := 0xFF#8, n := 33#6, cnt := 32#6 }

theorem lastSlot_inv : Inv lastSlot := by
  constructor <;> first | decide | (unfold CountRight; decide)

theorem witness_OperationsEnd : Inv lastSlot ∧ lastSlot.agenda = [] ∧ lastSlot.busy = true :=
  ⟨lastSlot_inv, rfl, rfl⟩

theorem witness_StepKeepsInvariant : Inv lastSlot ∧ ∃ t, step (answering lastSlot [] [.timeout]) = .next t :=
  ⟨lastSlot_inv, _, rfl⟩

/-- An operation accepted and not begun on the bus. -/
theorem witness_StepKeepsTraceGrammar :
    Inv (running 0#1 2#3 0x08#8 .start []) ∧ TraceInv (running 0#1 2#3 0x08#8 .start []) ∧
      ∃ t, step (running 0#1 2#3 0x08#8 .start []) = .next t := by
  refine ⟨?_, by decide, _, rfl⟩
  constructor <;> first | decide | (unfold CountRight; decide)

theorem witness_EveryStepAnswers : Inv lastSlot := lastSlot_inv

theorem witness_StatusValues : Inv lastSlot ∧ hostValue 0x04#7 lastSlot = 0x01#32 := ⟨lastSlot_inv, by decide⟩

/-- A scalar commit changes `DATA`, a string commit the string registers. -/
theorem witness_ResultsWrittenAtCommitOnly :
    (∃ t, step (running 0#1 2#3 0x08#8 .stop [0xB8#8, 0x0B#8]) = .next t ∧ t.data ≠ 0x00000000#32) ∧
    ¬ ResetNext (running 0#1 2#3 0x08#8 .stop [0xB8#8, 0x0B#8]) ∧
    (∃ t, step (endOfString [0x03#8, 0x41#8, 0x42#8, 0x43#8]) = .next t ∧ t.strlen ≠ 0#6) ∧
    ¬ ResetNext (endOfString [0x03#8, 0x41#8, 0x42#8, 0x43#8]) :=
  ⟨⟨_, rfl, by decide⟩, by decide, ⟨_, rfl, by decide⟩, by decide⟩

/-- `BUSY` rises, `BUSY` falls with `DONE` rising, `DONE` falls by an acceptance, `DONE` falls by `Reset`. -/
theorem witness_BusyAndDoneChange :
    (∃ t, step (withTurns State.reset [.write 0x00#7 0x00000208#32]) = .next t ∧ t.busy = true) ∧
    (∃ t, step (running 0#1 2#3 0x08#8 .stop []) = .next t ∧ t.busy = false ∧ t.done = true) ∧
    (∃ t, step (withTurns { State.reset with done := true } [.write 0x00#7 0x0000010E#32]) = .next t ∧ t.done = false) ∧
    (∃ t, step (withTurns { State.reset with done := true } [.reset]) = .next t ∧ t.done = false) :=
  ⟨⟨_, rfl, rfl⟩, ⟨_, rfl, rfl, rfl⟩, ⟨_, rfl, rfl⟩, ⟨_, rfl, rfl⟩⟩

theorem witness_LatchedCommandConstant :
    let s := withTurns (running 0#1 2#3 0x08#8 .start []) [.write 0x00#7 0x0000010E#32]
    s.busy = true ∧ ¬ ResetNext s ∧ ∃ t, step s = .next t :=
  ⟨rfl, by decide, _, rfl⟩

theorem witness_TraceGrowsBySymbol :
    (∃ t, step (answering (running 0#1 1#3 0x0E#8 .cmdb []) [.nack] []) = .next t ∧ t.trace = [.sent 0x0E#8 .nack]) ∧
    ∃ t, step State.reset = .next t ∧ t.trace = [] :=
  ⟨⟨_, rfl, rfl⟩, _, rfl, rfl⟩

theorem witness_HostTurnsLeaveOperation :
    let s := withTurns (running 0#1 2#3 0x08#8 .cmdb []) [.read 0x0C#7]
    s.busy = true ∧ ¬ ControllerNext s ∧ ¬ ResetNext s ∧ ∃ t, step s = .next t :=
  ⟨rfl, by decide, by decide, _, rfl⟩

/-- A scalar and a string operation at their stop. -/
theorem witness_BusFailureInvisible :
    let s := running 0#1 2#3 0x08#8 .stop [0xB8#8]
    let u := running 1#1 0#3 0x21#8 .stop []
    (∀ j < 33, byteAt emptyBuffer j = 0#8) ∧ s.st = .stop ∧ s.opk = 0#1 ∧ u.st = .stop ∧ u.opk = 1#1 ∧
    (∃ t, microStep { s with failf := true } = .next t) ∧
    (∃ t, microStep { s with failf := false, rbuf := emptyBuffer } = .next t) ∧
    (∃ t, microStep { u with failf := true } = .next t) ∧
    (∃ t, microStep { u with failf := false, ph := .b, llat := 0#8 } = .next t) :=
  ⟨by decide, rfl, rfl, rfl, rfl, ⟨_, rfl⟩, ⟨_, rfl⟩, ⟨_, rfl⟩, ⟨_, rfl⟩⟩

theorem witness_StringUnpacks : (0 : Nat) ≤ 32 ∧ (32 : Nat) ≤ 32 := by decide

theorem witness_ReadScalarCallReturns :
    (withTurns State.reset (readScalarCall 0x08#8 2#32)).busy = false ∧
    (withTurns State.reset (readScalarCall 0x0E#8 1#32)).agenda = readScalarCall 0x0E#8 1#32 ∧
    (withTurns State.reset (readScalarCall 0x08#8 2#32)).agenda = readScalarCall 0x08#8 2#32 ∧
    (withTurns State.reset (readScalarCall 0x50#8 4#32)).agenda = readScalarCall 0x50#8 4#32 := by decide

theorem witness_ReadStringCallReturns :
    (withTurns State.reset (readStringCall 0x21#8)).busy = false ∧
    (withTurns State.reset (readStringCall 0x21#8)).agenda = readStringCall 0x21#8 := by decide

end Sys2Proof.Tests
end

section
/-! The invariant of the block (10_state.md): at power-on, and kept by every step. -/

namespace Sys2Proof.Machine

variable {s t : State}

/-! ### Counts -/

theorem clampLength_le (l : Byte) : (clampLength l).toNat ≤ 32 := by
  rw [(clampLength_eq l).1, BitVec.toNat_ofNat]; omega

/-- Phase B receives at most 33 bytes, the capacity of `RBUF` (R21, R26). -/
theorem clampLength_succ_le (l : Byte) : (clampLength l + 1#6).toNat ≤ 33 := by
  rw [(clampLength_eq l).2, BitVec.toNat_ofNat]; omega

theorem firstCount_le (o : BitVec 1) (w : BitVec 3) : (firstCount o w).toNat ≤ 33 := by
  revert o w; decide

/-! ### Power-on -/

theorem Inv.at_reset : Inv State.reset := by
  constructor
  case busy_count => intro h; cases h
  all_goals decide

/-- Settles O44: each part of the invariant is a fact about the one state of power-on. -/
theorem invariantsAtReset : Obligations.InvariantsAtReset := ⟨Inv.at_reset, by decide⟩

/-! ### What the invariant does not speak of -/

theorem Inv.setAgenda (h : Inv s) (turns : List Turn) : Inv { s with agenda := turns } := { h with }

theorem Inv.logRead (h : Inv s) (off : Offset) : Inv (s.logRead off) := { h with }

theorem Inv.resetAction (s : State) : Inv s.resetAction := { Inv.at_reset with }

/-! ### Micro-steps -/

/-- `BUS` is owned at every micro-step but the first of a transaction (R28). -/
theorem Inv.owned (h : Inv s) (inside : s.st ≠ .idle ∧ s.st ≠ .start) : s.bus = .owned := h.bus_iff.mpr inside

/-- `FAILF` = 0 wherever the controller still transmits or receives (R27). -/
theorem Inv.not_failed (h : Inv s) (before : s.st ≠ .stop ∧ s.st ≠ .idle) : s.failf = false := by
  by_contra e
  exact (h.failed_at (by simpa using e)).elim before.1 before.2

/-- `N` is positive in an operation: a transaction receives at least one byte (R21). -/
theorem Inv.count_pos (h : Inv s) (active : s.st ≠ .idle) : 0#6 < s.n := by
  have busy := h.busy_iff.mpr active
  obtain ⟨phaseA, phaseB⟩ := h.busy_count busy
  cases hp : s.ph with
  | a =>
    rw [phaseA hp]
    rcases h.busy_latch busy with ⟨ho, hw | hw | hw⟩ | ⟨ho, hw⟩ <;> rw [ho, hw] <;> decide
  | b =>
    rw [phaseB hp, BitVec.lt_def, (clampLength_eq s.llat).2, BitVec.toNat_ofNat, BitVec.toNat_ofNat]
    omega

/-- Inside a transaction the controller moves `ST`, `CNT` and `FAILF` with the bus owned, and the registers of the
operation stay; the trace, the receive buffer and the peripheral are free. -/
theorem Inv.inside (h : Inv s) (active : s.st ≠ .idle) {q : SeqState} {b : BusState} {c : BitVec 6} {f : Bool}
    {tr : List Symbol} {p : Periph} {rb : Buffer} (owned : b = .owned) (inside : q ≠ .idle ∧ q ≠ .start) (hc : c.toNat ≤ 33)
    (slot : q = .datab → c < s.n) (stop : q = .stop → f = false → c = s.n) (failed : f = true → q = .stop) :
    Inv { s with st := q, bus := b, cnt := c, failf := f, trace := tr, periph := p, rbuf := rb } :=
  { h with
    busy_iff := iff_of_true (h.busy_iff.mpr active) inside.1
    bus_iff := iff_of_true owned inside
    idle_phase := fun e => absurd e inside.1
    counts := ⟨h.counts.1, hc⟩
    slot_count := slot
    stop_count := stop
    failed_at := fun e => .inl (failed e) }

/-- A step of an operation that has not failed to its next symbol before the stop. -/
theorem Inv.advance (h : Inv s) (before : s.st ≠ .stop ∧ s.st ≠ .idle) {q : SeqState} {b : BusState} {c : BitVec 6}
    {tr : List Symbol} {p : Periph} (owned : b = .owned) (next : q ≠ .idle ∧ q ≠ .start ∧ q ≠ .stop) (hc : c.toNat ≤ 33)
    (slot : q = .datab → c < s.n) : Inv { s with st := q, bus := b, cnt := c, trace := tr, periph := p } :=
  h.inside before.2 owned ⟨next.1, next.2.1⟩ hc slot (fun e => absurd e next.2.2) (by simp [h.not_failed before])

theorem Inv.failTransaction (h : Inv s) (inside : s.st ≠ .idle ∧ s.st ≠ .start) (p : Periph) (y : Symbol) :
    Inv ({ s with periph := p }.emit y).failTransaction :=
  h.inside inside.1 (h.owned inside) (by decide) h.counts.2 nofun nofun fun _ => rfl

/-- A byte stored: `CNT` grows by one without wrapping, and the last of `N` slots leads to the stop (R95). -/
theorem Inv.storeByte (h : Inv s) (hs : s.st = .datab) (below : s.cnt < s.n) (p : Periph) (y : Symbol) (d : Byte) :
    Inv (({ s with periph := p }.emit y).storeByte d) := by
  have bound := h.counts.1
  have below : s.cnt.toNat < s.n.toNat := below
  have next : (s.cnt + 1#6).toNat = s.cnt.toNat + 1 := by bv_omega
  refine h.inside (q := if s.cnt + 1#6 = s.n then .stop else .datab) (c := s.cnt + 1#6) (by simp [hs])
    (h.owned (by simp [hs])) (by split <;> decide) (by omega) ?slot ?stop (by simp [h.not_failed (by simp [hs])])
  case slot =>
    split
    · exact nofun
    · next more =>
      have room : (s.cnt + 1#6).toNat < s.n.toNat := by have := mt (last_slot_iff below).mpr more; omega
      exact fun _ => room
  case stop =>
    split
    · next full => exact fun _ _ => full
    · exact nofun

/-- The end of a successful phase A: `N` is `min(L, 32) + 1`, the bus free, phase B about to start (R96). -/
theorem Inv.startPhaseB (h : Inv s) (hs : s.st = .stop) (string : s.opk = 1#1) (unfailed : s.failf = false) :
    Inv s.release.startPhaseB :=
  { h with
    busy_iff := iff_of_true (h.busy_iff.mpr (by simp [hs])) (by simp)
    bus_iff := by simp
    idle_phase := by simp
    phase_string := fun _ => string
    busy_count := fun _ => ⟨nofun, fun _ => rfl⟩
    counts := ⟨clampLength_succ_le _, h.counts.2⟩
    slot_count := by simp
    stop_count := by simp
    failed_at := by simp [unfailed] }

theorem commit_strlen_le (h : s.strlen.toNat ≤ 32) : s.commit.strlen.toNat ≤ 32 := by
  rw [commit_strlen]
  split
  · exact h
  · split
    · decide
    · exact clampLength_le _

/-- From its terminator on the string of a commit is zero (R16, R136, R137). -/
theorem commit_string_tail (h : ∀ i : Fin 33, s.strlen.toNat ≤ i.val → byteAt s.strbuf i.val = 0#8) (i : Fin 33)
    (hi : s.commit.strlen.toNat ≤ i.val) : byteAt s.commit.strbuf i.val = 0#8 := by
  rw [commit_strlen] at hi
  rw [commit_strbuf]
  by_cases scalar : s.opk = 0#1
  · rw [if_pos scalar] at hi ⊢
    exact h i hi
  · rw [if_neg scalar] at hi ⊢
    by_cases failed : s.failf
    · rw [if_pos failed]; exact byteAt_emptyBuffer _
    · rw [if_neg failed] at hi ⊢
      rw [byteAt_copyString _ _ i.isLt, if_neg (by omega)]

theorem Inv.commit (h : Inv s) : Inv s.commit where
  busy_iff := by simp
  busy_done := by simp
  bus_iff := by simp
  idle_phase := by simp
  phase_string := by simp
  record := by simpa using h.record
  no_record := by simpa using h.no_record
  record_busy := by simp
  strlen_le := commit_strlen_le h.strlen_le
  string_tail := commit_string_tail h.string_tail
  latch := by simpa using h.latch
  busy_latch := by simp
  busy_count := by simp
  counts := by simpa using h.counts
  slot_count := by simp
  stop_count := by simp
  failed_at := by simp

theorem MicroStep.keeps_inv (m : MicroStep s t) (h : Inv s) : Inv t := by
  have bound := h.counts.2
  cases m with
  | idle => exact h
  | start hs => exact h.advance (by simp [hs]) rfl (by decide) bound nofun
  | restart hs => exact h.advance (by simp [hs]) (h.owned (by simp [hs])) (by decide) bound nofun
  | writeAcked p hs => exact h.advance (by simp [hs]) (h.owned (by simp [hs])) (by decide) bound nofun
  | registerAcked p hs => exact h.advance (by simp [hs]) (h.owned (by simp [hs])) (by decide) bound nofun
  | readAcked p hs =>
    exact h.advance (by simp [hs]) (h.owned (by simp [hs])) (by decide) (by decide) fun _ => h.count_pos (by simp [hs])
  | nacked p b hs => exact h.failTransaction (by rcases hs with ⟨hs, -⟩ | ⟨hs, -⟩ | ⟨hs, -⟩ <;> simp [hs]) p _
  | received p d hs below _ => exact h.storeByte hs below p _ d
  | timedOut p hs _ _ => exact h.failTransaction (by simp [hs]) p _
  | phaseB hs string _ unfailed => exact h.startPhaseB hs string unfailed
  | commit => exact h.commit

/-! ### Turns of the host -/

/-- A fault entry keeps the record consistent; a CommandWhileBusy record is made in an operation (R172, R174). -/
theorem Inv.raise (h : Inv s) (c : CommandFault) (v : Word) (busy : c = .commandWhileBusy → s.busy = true) :
    Inv (s.raise c v) := by
  by_cases hf : s.fault
  · rwa [State.raise, if_pos hf]
  · rw [State.raise, if_neg hf]
    exact { h with
      record := fun _ => by cases c <;> simp [causeCode]
      no_record := by simp
      record_busy := fun e => .inl (busy (by cases c <;> simp_all [causeCode])) }

/-- Acceptance from `IDLE`: a legal command latched, the bus still free, `N` that of its first transaction (R154). -/
theorem Inv.accept (h : Inv s) (ready : s.busy = false) {o : BitVec 1} {w : BitVec 3} (legal : FieldsLegal o w) (r : Byte) :
    Inv (s.latch o w r).beginOperation := by
  have idle : s.st = .idle := by simpa [ready] using h.busy_iff
  exact { h with
    busy_iff := by simp
    busy_done := by simp
    bus_iff := by simpa [idle] using h.bus_iff
    idle_phase := by simp
    phase_string := by simp
    record_busy := by simp
    latch := .inl legal
    busy_latch := fun _ => legal
    busy_count := fun _ => ⟨fun _ => rfl, nofun⟩
    counts := ⟨firstCount_le o w, h.counts.2⟩
    slot_count := by simp
    stop_count := by simp
    failed_at := by simp }

theorem CommandWrite.keeps_inv {v : Word} (c : CommandWrite v s t) (h : Inv s) : Inv t := by
  cases c with
  | accepted i o w r ready _ legal _ => exact h.accept ready legal r
  | dropped busy => exact h.raise _ v fun _ => busy
  | rejected c _ _ => exact h.raise _ v nofun

theorem HostTurn.keeps_inv {u : Turn} (c : HostTurn u s t) (h : Inv s) : Inv t := by
  cases c with
  | otherWrite off v _ _ => exact h
  | commandWrite v _ _ c => exact c.keeps_inv h
  | read off _ => exact h.logRead off
  | wait later _ => exact (h.logRead _).setAgenda later

/-- Settles O45: every micro-step and every turn of the host keeps the invariant, and `Reset` establishes it. -/
theorem stepKeepsInvariant : Obligations.StepKeepsInvariant := by
  intro s t h hst
  cases step_cases hst with
  | controller _ _ m => exact m.keeps_inv (h.setAgenda _)
  | host u rest _ _ c => exact c.keeps_inv (h.setAgenda _)
  | reset _ => exact Inv.resetAction _

end Sys2Proof.Machine
end

section
/-! The registers the host reads (R151) and the word view of the string buffer (R17). -/

namespace Sys2Proof.Machine

variable {s : State}

/-! ### The `STATUS` word -/

@[simp] theorem hostValue_status (s : State) : hostValue 0x04#7 s = statusWord s := rfl

/-- `BUSY` and `DONE` take three of their four values (R11, R12). -/
theorem Inv.busy_done_cases (h : Inv s) :
    (s.busy = false ∧ s.done = false) ∨ (s.busy = true ∧ s.done = false) ∨ (s.busy = false ∧ s.done = true) := by
  cases hb : s.busy with
  | true => exact .inr (.inl ⟨rfl, h.busy_done hb⟩)
  | false => cases s.done <;> simp

/-- Settles O48: without a record `CAUSE` is 0; with one it is 1, or it is 2 and `BUSY` or `DONE` is 1. -/
theorem statusValues : Obligations.StatusValues := by
  intro s h
  rw [hostValue_status, statusWord]
  cases hf : s.fault with
  | false =>
    rw [(h.no_record hf).1]
    rcases h.busy_done_cases with ⟨hb, hd⟩ | ⟨hb, hd⟩ | ⟨hb, hd⟩ <;> rw [hb, hd] <;> decide
  | true =>
    rcases h.record hf with hc | hc
    · rcases h.busy_done_cases with ⟨hb, hd⟩ | ⟨hb, hd⟩ | ⟨hb, hd⟩ <;> rw [hc, hb, hd] <;> decide
    · have accepted := h.record_busy hc
      rcases h.busy_done_cases with ⟨hb, hd⟩ | ⟨hb, hd⟩ | ⟨hb, hd⟩
      · simp [hb, hd] at accepted
      · rw [hc, hb, hd]; decide
      · rw [hc, hb, hd]; decide

/-! ### The string words -/

theorem byteAt_eq_dite (b : Buffer) (i : Nat) : byteAt b i = if h : i < 33 then b[i] else 0#8 := by
  unfold byteAt
  split <;> simp [*]

/-- `STRW[8]` holds the last byte of the buffer alone (R17). -/
theorem stringWord_last (b : Buffer) : stringWord b 8 = b[32].setWidth 32 := by
  have past {i : Nat} (h : 33 ≤ i) : byteAt b i = 0#8 := by rw [byteAt_eq_dite, dif_neg (by omega)]
  apply BitVec.eq_of_toNat_eq
  rw [stringWord, append_bytes_toNat, past (by decide), past (by decide), past (by decide), byteAt_eq_dite, dif_pos (by decide),
    BitVec.toNat_setWidth, BitVec.toNat_zero]
  simp only [Nat.reduceMul]
  omega

/-- Byte `j` of `STRW[k]`, the least significant first (R17). -/
theorem stringWord_byte (b : Buffer) (k : Nat) {j : Nat} (hj : j < 4) :
    (stringWord b k).extractLsb' (8 * j) 8 = byteAt b (4 * k + j) := by
  apply BitVec.eq_of_toNat_eq
  rw [BitVec.extractLsb'_toNat, stringWord, append_bytes_toNat, Nat.shiftRight_eq_div_pow]
  interval_cases j <;> simp only [Nat.reduceMul, Nat.reducePow, Nat.add_zero] <;> omega

/-- `STRW[k]` is read at offset 0x20 + 4k (R17, R151). -/
theorem hostValue_stringWord {k : Nat} (hk : k ≤ 8) (s : State) :
    hostValue (BitVec.ofNat 7 (0x20 + 4 * k)) s = stringWord s.strbuf k := by
  interval_cases k <;> rfl

/-- A write at a word offset other than that of `CMD` changes nothing (R153). -/
theorem hostWrite_other {off : Offset} (word : off.isWord = true) (other : off ≠ 0x00#7) (v : Word) (s : State) :
    hostWrite off v s = .next s := by
  rw [hostWrite, if_pos word, if_neg other]

/-- Settles O20: the string words are the buffer's bytes in order, and no offset of theirs is that of `CMD`. -/
theorem stringWordBytes : Obligations.StringWordBytes := by
  intro s
  refine ⟨fun k j hk hj => ?_, ?_, fun k v hk => ?_⟩
  · rw [hostValue_stringWord hk, stringWord_byte _ _ hj, byteAt_eq_dite]
  · exact (hostValue_stringWord (le_refl 8) s).trans (stringWord_last s.strbuf)
  · exact hostWrite_other (by interval_cases k <;> decide) (by interval_cases k <;> decide) v s

end Sys2Proof.Machine
end

section
/-! What a step can do to the flags, the result registers and the latched command (R11, R12, R14 to R16, R20): nothing but
in an acceptance, a commit and `Reset`. -/

namespace Sys2Proof.Machine

variable {s t : State}

/-! ### Legal words -/

theorem fieldRsv_latchWord (o : BitVec 1) (w : BitVec 3) (r : Byte) : fieldRsv (latchWord o w r) = 0#20 := by
  rw [fieldRsv, latchWord, BitVec.extractLsb'_append_eq_of_le (by decide), BitVec.extractLsb'_append_eq_of_le (by decide),
    BitVec.extractLsb'_append_eq_of_le (by decide)]
  rfl

theorem fieldStr_latchWord (o : BitVec 1) (w : BitVec 3) (r : Byte) : fieldStr (latchWord o w r) = o := by
  rw [fieldStr, latchWord, BitVec.extractLsb'_append_eq_of_le (by decide), BitVec.extractLsb'_append_eq_of_le (by decide),
    BitVec.extractLsb'_append_eq_right]

theorem fieldWidth_latchWord (o : BitVec 1) (w : BitVec 3) (r : Byte) : fieldWidth (latchWord o w r) = w := by
  rw [fieldWidth, latchWord, BitVec.extractLsb'_append_eq_of_le (by decide), BitVec.extractLsb'_append_eq_right]

/-- The packed fields of a legal command are a legal word (R65). -/
theorem legal_latchWord {o : BitVec 1} {w : BitVec 3} (legal : FieldsLegal o w) (r : Byte) : Legal (latchWord o w r) := by
  rw [Legal, fieldRsv_latchWord, fieldStr_latchWord, fieldWidth_latchWord]
  exact ⟨rfl, legal⟩

/-! ### Registers kept -/

/-- `t` has the flags `BUSY` and `DONE`, the result registers and the latched command of `s`. -/
structure SameRegisters (s t : State) : Prop where
  busy : t.busy = s.busy
  done : t.done = s.done
  data : t.data = s.data
  strlen : t.strlen = s.strlen
  strbuf : t.strbuf = s.strbuf
  opk : t.opk = s.opk
  wl : t.wl = s.wl
  regl : t.regl = s.regl

/-- The turns to come are none of these registers. -/
theorem SameRegisters.of_agenda {turns : List Turn} (same : SameRegisters { s with agenda := turns } t) : SameRegisters s t :=
  { same with }

theorem SameRegisters.raise (s : State) (c : CommandFault) (v : Word) : SameRegisters s (s.raise c v) := by
  constructor <;> simp

/-- A micro-step keeps these registers or is the commit. -/
theorem MicroStep.same_or_commit (m : MicroStep s t) : SameRegisters s t ∨ (s.st = .stop ∧ t = s.commit) := by
  cases m with
  | commit hs _ => exact .inr ⟨hs, rfl⟩
  | _ => exact .inl ⟨rfl, rfl, rfl, rfl, rfl, rfl, rfl, rfl⟩

/-- A host turn keeps these registers or is the acceptance of a legal word. -/
theorem HostTurn.same_or_accepted {a : Turn} (turn : HostTurn a s t) :
    SameRegisters s t ∨ ∃ o w r, a = .write 0x00#7 (latchWord o w r) ∧ Legal (latchWord o w r) ∧ s.busy = false ∧
      t = (s.latch o w r).beginOperation := by
  cases turn with
  | otherWrite | read | wait => exact .inl ⟨rfl, rfl, rfl, rfl, rfl, rfl, rfl, rfl⟩
  | commandWrite v _ ha c =>
    cases c with
    | accepted i o w r ready _ legal packed =>
      subst packed
      exact .inr ⟨o, w, r, ha, legal_latchWord legal r, ready, rfl⟩
    | dropped _ => exact .inl (.raise s _ v)
    | rejected _ _ _ => exact .inl (.raise s _ v)

/-- What a step does to these registers, one constructor per event that changes them. -/
inductive RegisterStep (s : State) : State → Prop where
  | same (t : State) : SameRegisters s t → RegisterStep s t
  | accepted (rest : List Turn) (o : BitVec 1) (w : BitVec 3) (r : Byte) :
      s.agenda = .write 0x00#7 (latchWord o w r) :: rest → Legal (latchWord o w r) → s.busy = false →
      RegisterStep s ({ s with agenda := rest }.latch o w r).beginOperation
  | committed : ControllerNext s → s.st = .stop → RegisterStep s { s with agenda := s.agenda.tail }.commit
  | reset : ResetNext s → RegisterStep s { s with agenda := s.agenda.tail }.resetAction

/-- A step that answers a next state is one of `RegisterStep`. -/
theorem registerStep_of_step (h : step s = .next t) : RegisterStep s t := by
  cases step_cases h with
  | controller _ turn m =>
    obtain same | ⟨stop, rfl⟩ := m.same_or_commit
    · exact .same t same.of_agenda
    · exact .committed turn stop
  | host a rest _ agenda c =>
    obtain same | ⟨o, w, r, rfl, legal, ready, rfl⟩ := c.same_or_accepted
    · exact .same t same.of_agenda
    · exact .accepted rest o w r agenda legal ready
  | reset turn => exact .reset turn

/-! ### The statements -/

/-- Settles O49: of the events that change registers, only the commit writes results, those of the command's kind. -/
theorem resultsWrittenAtCommitOnly : Obligations.ResultsWrittenAtCommitOnly := by
  intro s t h noReset
  cases registerStep_of_step h with
  | same _ same => simp [same.data, same.strlen, same.strbuf]
  | accepted => simp
  | committed turn stop => by_cases scalar : s.opk = 0#1 <;> simp [scalar, turn, stop]
  | reset turn => exact absurd turn noReset

/-- Settles O50: an acceptance raises `BUSY` and clears `DONE`, a commit clears `BUSY` and raises `DONE`, `Reset` clears both. -/
theorem busyAndDoneChange : Obligations.BusyAndDoneChange := by
  intro s t h
  cases registerStep_of_step h with
  | same _ same => simp +contextual [same.busy, same.done]
  | accepted rest o w r agenda legal ready =>
    have written : ∃ v rest, s.agenda = .write 0x00#7 v :: rest ∧ Legal v := ⟨_, rest, agenda, legal⟩
    exact ⟨fun _ _ => ⟨rfl, written⟩, by simp [ready], by simp, fun _ _ => .inr ⟨ready, rfl, written⟩⟩
  | committed turn stop => simp [turn, stop]
  | reset turn => exact ⟨by simp [State.reset], fun _ _ => .inl turn, by simp [State.reset], fun _ _ => .inl turn⟩

/-- Settles O51: with `BUSY` = 1 no command is accepted, and a commit leaves the latched command. -/
theorem latchedCommandConstant : Obligations.LatchedCommandConstant := by
  intro s t busy noReset h
  cases registerStep_of_step h with
  | same _ same => exact ⟨same.opk, same.wl, same.regl⟩
  | accepted rest o w r agenda legal ready => simp [busy] at ready
  | committed turn stop => simp
  | reset turn => exact absurd turn noReset

end Sys2Proof.Machine
end

section
/-! The host accesses that the boundary refuses (R47). -/

namespace Sys2Proof.Machine

/-- The word offsets are the multiples of 4 (R41, R47). -/
theorem isWord_iff_dvd (off : Offset) : off.isWord = true ↔ 4 ∣ off.toNat := by
  rw [Offset.isWord, beq_iff_eq, ← BitVec.toNat_inj, BitVec.extractLsb'_toNat, Nat.shiftRight_zero, BitVec.toNat_ofNat]
  omega

theorem hostWrite_refused {off : Offset} (narrow : ¬ off.isWord = true) (v : Word) (s : State) :
    hostWrite off v s = .refused (.notWordOffset off) := by
  rw [hostWrite, if_neg narrow]

theorem hostRead_refused {off : Offset} (narrow : ¬ off.isWord = true) (s : State) :
    hostRead off s = .refused (.notWordOffset off) := by
  rw [hostRead, if_neg narrow]

/-- Settles O22: an offset that is no multiple of 4 is no word offset, and both accesses test for that first. -/
theorem narrowAccessRefused : Obligations.NarrowAccessRefused := by
  intro s off v notMultiple
  have narrow := mt (isWord_iff_dvd off).mp notMultiple
  exact ⟨hostWrite_refused narrow v s, hostRead_refused narrow s⟩

end Sys2Proof.Machine
end

section
/-! What a step adds to the bus trace: at most one symbol (R53), and no byte of the master's but the two address bytes and
the register address (R70, R88). -/

namespace Sys2Proof.Machine

variable {s t : State}

/-- A byte that the master may transmit in `s` (R88). -/
def Transmits (s : State) (b : Byte) : Prop :=
  b = addrWrite Config.periphAddr ∨ b = s.regl ∨ b = addrRead Config.periphAddr

/-- From `s` to `t` the trace is kept or grows by one symbol, a transmitted byte being one that `s` may transmit. -/
def GrowsBySymbol (s t : State) : Prop :=
  t.trace = s.trace ∨ ∃ y, t.trace = s.trace ++ [y] ∧ ∀ b a, y = .sent b a → Transmits s b

theorem GrowsBySymbol.of_sent {b : Byte} {a : Ack} (added : t.trace = s.trace ++ [.sent b a]) (transmitted : Transmits s b) :
    GrowsBySymbol s t :=
  .inr ⟨_, added, by rintro _ _ ⟨⟩; exact transmitted⟩

theorem GrowsBySymbol.of_not_sent {y : Symbol} (added : t.trace = s.trace ++ [y]) (notSent : ∀ b a, y ≠ .sent b a) :
    GrowsBySymbol s t :=
  .inr ⟨y, added, fun b a e => absurd e (notSent b a)⟩

theorem MicroStep.growsBySymbol (m : MicroStep s t) : GrowsBySymbol s t := by
  cases m with
  | idle => exact .inl rfl
  | start | restart | received | timedOut | phaseB => exact .of_not_sent rfl nofun
  | commit => exact .of_not_sent (commit_trace s) nofun
  | writeAcked => exact .of_sent rfl (.inl rfl)
  | registerAcked => exact .of_sent rfl (.inr (.inl rfl))
  | readAcked => exact .of_sent rfl (.inr (.inr rfl))
  | nacked p b asked =>
    have transmitted : Transmits s b := by
      rcases asked with ⟨-, hb⟩ | ⟨-, hb⟩ | ⟨-, hb⟩
      · exact .inl hb
      · exact .inr (.inl hb)
      · exact .inr (.inr hb)
    exact .of_sent rfl transmitted

theorem CommandWrite.keeps_trace {v : Word} (c : CommandWrite v s t) : t.trace = s.trace := by
  cases c with
  | accepted => rfl
  | dropped | rejected => exact raise_trace s _ v

/-- No turn of the host but `Reset` puts a symbol on the bus. -/
theorem HostTurn.keeps_trace {u : Turn} (c : HostTurn u s t) : t.trace = s.trace := by
  cases c with
  | otherWrite | read | wait => rfl
  | commandWrite _ _ _ c => exact c.keeps_trace

/-- `Reset` adds the marker `X` or nothing (R192). -/
theorem resetAction_growsBySymbol (s : State) : GrowsBySymbol s s.resetAction := by
  cases hb : s.bus with
  | free => exact .inl (by simp [traceAfterReset, hb])
  | owned => exact .of_not_sent (y := .abandoned) (by simp [traceAfterReset, hb]) nofun

/-- Settles O52: a micro-step emits at most one symbol, `Reset` at most its marker, and a turn of the host none. -/
theorem traceGrowsBySymbol : Obligations.TraceGrowsBySymbol := by
  intro s t h
  cases step_cases h with
  | controller _ _ m => exact m.growsBySymbol
  | host _ _ _ _ c => exact .inl c.keeps_trace
  | reset _ => exact resetAction_growsBySymbol { s with agenda := s.agenda.tail }

end Sys2Proof.Machine
end

section
/-! The decoder and the encoder on the fields of a word (R60, R62, R65 to R67). -/

namespace Sys2Proof.Machine

/-! ### Words and their fields -/

@[simp] theorem fieldReg_latchWord (o : BitVec 1) (k : BitVec 3) (r : Byte) : fieldReg (latchWord o k r) = r := by
  rw [fieldReg, latchWord, BitVec.extractLsb'_append_eq_right]

/-- A word without reserved bits is its other three fields, packed. -/
theorem latchWord_fields {w : Word} (rsv : fieldRsv w = 0#20) : latchWord (fieldStr w) (fieldWidth w) (fieldReg w) = w := by
  have top : fieldRsv w ++ fieldStr w = w.extractLsb' 11 21 := BitVec.extractLsb'_append_extractLsb'_eq_extractLsb' rfl
  have upper : w.extractLsb' 11 21 ++ fieldWidth w = w.extractLsb' 8 24 :=
    BitVec.extractLsb'_append_extractLsb'_eq_extractLsb' rfl
  have whole : w.extractLsb' 8 24 ++ fieldReg w = w :=
    (BitVec.extractLsb'_append_extractLsb'_eq_extractLsb' rfl).trans BitVec.extractLsb'_eq_self
  rw [latchWord, ← rsv, top, upper, whole]

/-- The four bits by which the decoder tells the commands apart are `STR` and `WIDTH`. -/
theorem fieldStr_append_fieldWidth (w : Word) : fieldStr w ++ fieldWidth w = w.extractLsb' 8 4 :=
  BitVec.extractLsb'_append_extractLsb'_eq_extractLsb' rfl

theorem append_eq_append_iff {n m : Nat} {x x' : BitVec n} {y y' : BitVec m} : x ++ y = x' ++ y' ↔ x = x' ∧ y = y' := by
  constructor
  · intro h
    have left := congrArg (BitVec.extractLsb' m n) h
    have right := congrArg (BitVec.extractLsb' 0 m) h
    rw [BitVec.extractLsb'_append_eq_left, BitVec.extractLsb'_append_eq_left] at left
    rw [BitVec.extractLsb'_append_eq_right, BitVec.extractLsb'_append_eq_right] at right
    exact ⟨left, right⟩
  · rintro ⟨rfl, rfl⟩
    rfl

/-- The decoder by the fields of the word: the two classes of `STR` apart. -/
theorem decode_eq_of_fields (w : Word) :
    decode w =
      if fieldRsv w ≠ 0#20 then .error .reservedBits
      else if fieldStr w = 1#1 then
        if fieldWidth w = 0#3 then .ok (.rdstr (fieldReg w)) else .error .widthWithString
      else if fieldWidth w = 1#3 then .ok (.rd8 (fieldReg w))
      else if fieldWidth w = 2#3 then .ok (.rd16 (fieldReg w))
      else if fieldWidth w = 4#3 then .ok (.rd32 (fieldReg w))
      else .error .unsupportedWidth := by
  have row (o : BitVec 1) (k : BitVec 3) : w.extractLsb' 8 4 = o ++ k ↔ fieldStr w = o ∧ fieldWidth w = k := by
    rw [← fieldStr_append_fieldWidth, append_eq_append_iff]
  rw [decode, show 0b0001#4 = 0#1 ++ 1#3 from rfl, show 0b0010#4 = 0#1 ++ 2#3 from rfl,
    show 0b0100#4 = 0#1 ++ 4#3 from rfl, show 0b1000#4 = 1#1 ++ 0#3 from rfl]
  simp only [row]
  obtain str | str := BitVec.eq_zero_or_eq_one (fieldStr w) <;> simp [str]

/-! ### Decoding and encoding are inverse -/

/-- Settles O2: the word of a command has no reserved bit, and its other fields are those of the command's row. -/
theorem decodeOfEncode : Obligations.DecodeOfEncode := by
  intro i
  rw [encode_latchWord, decode_eq_of_fields]
  cases i <;> simp [fieldRsv_latchWord, fieldStr_latchWord, fieldWidth_latchWord]

/-- Settles O3: a decoded word and the word of its command are the same fields, packed. -/
theorem encodeOfDecode : Obligations.EncodeOfDecode := by
  intro w i decoded
  cases i <;> exact (encode_latchWord _).trans (decode_latchWord decoded).symm

/-! ### The legal words -/

theorem legal_encode (i : Instr) : Legal (encode i) := by
  rw [encode_latchWord]
  cases i <;> exact legal_latchWord (by decide) _

/-- A legal word is the word of a command: its fields are those of one of the four rows. -/
theorem Legal.exists_encode {w : Word} (legal : Legal w) : ∃ i, encode i = w := by
  obtain ⟨rsv, ⟨str, width | width | width⟩ | ⟨str, width⟩⟩ := legal <;>
    rw [← latchWord_fields rsv, str, width]
  · exact ⟨_, encode_latchWord (.rd8 (fieldReg w))⟩
  · exact ⟨_, encode_latchWord (.rd16 (fieldReg w))⟩
  · exact ⟨_, encode_latchWord (.rd32 (fieldReg w))⟩
  · exact ⟨_, encode_latchWord (.rdstr (fieldReg w))⟩

theorem legal_iff_decode (w : Word) : Legal w ↔ ∃ i, decode w = .ok i := by
  constructor
  · intro legal
    obtain ⟨i, rfl⟩ := legal.exists_encode
    exact ⟨i, decodeOfEncode i⟩
  · rintro ⟨i, decoded⟩
    rw [← encodeOfDecode w i decoded]
    exact legal_encode i

/-- Bits 31:8 of the packed fields: the operand cleared. -/
theorem latchWord_and_mask (o : BitVec 1) (k : BitVec 3) (r : Byte) :
    latchWord o k r &&& 0xFFFFFF00#32 = latchWord o k 0#8 := by
  rw [latchWord, latchWord, show 0xFFFFFF00#32 = BitVec.allOnes 24 ++ 0#8 from rfl, BitVec.and_append,
    BitVec.and_allOnes, BitVec.and_zero]

theorem encode_and_mask (i : Instr) : encode i &&& 0xFFFFFF00#32 = matchWord i := by
  rw [encode_latchWord]
  cases i <;> exact latchWord_and_mask _ _ _

/-- Legality is a matter of bits 31:8 (R64). -/
theorem legal_and_mask (w : Word) : Legal (w &&& 0xFFFFFF00#32) ↔ Legal w := by
  have rsv : fieldRsv (w &&& 0xFFFFFF00#32) = fieldRsv w := BitVec.extractLsb'_and.trans BitVec.and_allOnes
  have str : fieldStr (w &&& 0xFFFFFF00#32) = fieldStr w := BitVec.extractLsb'_and.trans BitVec.and_allOnes
  have width : fieldWidth (w &&& 0xFFFFFF00#32) = fieldWidth w := BitVec.extractLsb'_and.trans BitVec.and_allOnes
  rw [Legal, rsv, str, width]

theorem legal_iff_matchWord (w : Word) : Legal w ↔ ∃ i, w &&& 0xFFFFFF00#32 = matchWord i := by
  constructor
  · intro legal
    obtain ⟨i, rfl⟩ := legal.exists_encode
    exact ⟨i, encode_and_mask i⟩
  · rintro ⟨i, matched⟩
    rw [← legal_and_mask, matched, ← encode_and_mask, legal_and_mask]
    exact legal_encode i

/-- Without reserved bits, the four bits `STR` and `WIDTH` alone decide. -/
theorem legal_packed_iff (x : BitVec 4) (r : Byte) :
    Legal (0#20 ++ x ++ r) ↔ x = 1#4 ∨ x = 2#4 ∨ x = 4#4 ∨ x = 8#4 := by
  have halves : x.extractLsb' 3 1 ++ x.extractLsb' 0 3 = x :=
    (BitVec.extractLsb'_append_extractLsb'_eq_extractLsb' rfl).trans BitVec.extractLsb'_eq_self
  have packed : latchWord (x.extractLsb' 3 1) (x.extractLsb' 0 3) r = 0#20 ++ x ++ r := by
    rw [latchWord, BitVec.append_assoc (x₁ := 0#20), halves, BitVec.cast_eq]
  rw [← packed, Legal, fieldRsv_latchWord, fieldStr_latchWord, fieldWidth_latchWord]
  clear halves packed
  decide +revert

/-- Settles O4: the words of the four commands are the legal words, and they are told by bits 31:8. -/
theorem legalWordsDecode : Obligations.LegalWordsDecode :=
  ⟨legal_iff_decode, legal_iff_matchWord, legal_packed_iff⟩

/-- Settles O5: the decoder tests `RSV`, then `STR`, then `WIDTH`. -/
theorem illegalWordClasses : Obligations.IllegalWordClasses := by
  intro w
  rw [decode_eq_of_fields]
  by_cases rsv : fieldRsv w = 0#20
  · obtain str | str := BitVec.eq_zero_or_eq_one (fieldStr w)
    · by_cases supported : fieldWidth w = 1#3 ∨ fieldWidth w = 2#3 ∨ fieldWidth w = 4#3
      · rcases supported with width | width | width <;> simp [rsv, str, width]
      · rw [not_or, not_or] at supported
        simp [rsv, str, supported]
    · by_cases width : fieldWidth w = 0#3 <;> simp [rsv, str, width]
  · simp [rsv]

/-- Settles O1: four words of commands (O2), and one word of each class of illegal words (O5). -/
theorem specWordsDecode : Obligations.SpecWordsDecode :=
  ⟨decodeOfEncode (.rd8 0x0E#8), decodeOfEncode (.rd16 0x08#8), decodeOfEncode (.rd32 0x50#8),
    decodeOfEncode (.rdstr 0x21#8), (illegalWordClasses _).2.1.mpr (by decide), (illegalWordClasses _).2.2.mpr (by decide),
    (illegalWordClasses _).1.mpr (by decide)⟩

end Sys2Proof.Machine
end

section
/-! The assembler's lines and the pseudo-instructions (R72, R74), and the address bytes (R69). -/

namespace Sys2Proof.Machine

theorem assemble_of_wf {l : AsmLine} (wf : l.wf = true) : assemble l = some (encode (l.mnemonic.instr l.operand.value)) :=
  if_pos wf

theorem assemble_eq_none {l : AsmLine} (illFormed : ¬ l.wf = true) : assemble l = none :=
  if_neg illFormed

/-- A line with a number is well-formed up to 255 (R72). -/
theorem wf_number_iff (m : Mnemonic) (n : Nat) : (AsmLine.mk m (.number n)).wf = true ↔ n ≤ 255 :=
  decide_eq_true_iff

theorem reg_instr (m : Mnemonic) (r : Byte) : (m.instr r).reg = r := by
  cases m <;> rfl

theorem fieldReg_encode (i : Instr) : fieldReg (encode i) = i.reg := by
  cases i with
  | rd8 r => exact (Laws.EncodeFields.rd8 r).2
  | rd16 r => exact (Laws.EncodeFields.rd16 r).2
  | rd32 r => exact (Laws.EncodeFields.rd32 r).2
  | rdstr r => exact (Laws.EncodeFields.rdstr r).2

/-- The low byte of a command word is the operand (R62). -/
theorem encode_toNat_mod (i : Instr) : (encode i).toNat % 256 = i.reg.toNat := by
  rw [← fieldReg_encode, fieldReg, BitVec.extractLsb'_toNat, Nat.shiftRight_zero]

/-- Settles O6: a line is well-formed unless its operand is a number above 255, and no operand up to 255 wraps. -/
theorem assembledLinesDecode : Obligations.AssembledLinesDecode := by
  refine ⟨fun m n small => ?_, fun m f => ⟨_, assemble_of_wf rfl, decodeOfEncode _⟩, fun m n large => ?_⟩
  · refine ⟨_, assemble_of_wf ((wf_number_iff m n).mpr small), decodeOfEncode _, ?_⟩
    rw [encode_toNat_mod, reg_instr]
    exact Nat.mod_eq_of_lt (Nat.lt_succ_of_le small)
  · exact assemble_eq_none (mt (wf_number_iff m n).mp (Nat.not_le_of_lt large))

theorem wf_expand (f : Field) : f.expand.wf = true := by
  cases f <;> rfl

/-- Settles O7: every expansion is a well-formed line, whose command is that of the table. -/
theorem pseudoInstructionsExpand : Obligations.PseudoInstructionsExpand := by
  intro f
  refine ⟨_, assemble_of_wf (wf_expand f), (decodeOfEncode _).trans ?_⟩
  cases f <;> rfl

/-- Settles O8: an address byte is the address, shifted by the direction bit appended to it. -/
theorem addressBytes : Obligations.AddressBytes :=
  fun a => ⟨append_toNat a 0#1, append_toNat a 1#1⟩

end Sys2Proof.Machine
end

section
/-! The grammar of the bus trace (R85, R86, R101): every step keeps `TRACE` a sequence of transactions, the last one as
far as the sequencer is. -/

namespace Sys2Proof.Machine

variable {s t : State}

theorem followTrace_concat (tr : List Symbol) (y : Symbol) :
    followTrace (tr ++ [y]) = (followTrace tr).bind (follow · y) := by
  rw [followTrace, List.foldl_append]
  rfl

/-- A symbol that the grammar admits where the sequencer stands is put on the bus. -/
theorem TraceInv.emit (h : TraceInv s) {y : Symbol} (added : t.trace = s.trace ++ [y])
    (admitted : follow (grammarAt s.st) y = some (grammarAt t.st)) : TraceInv t := by
  rw [TraceInv, added, followTrace_concat, h]
  exact admitted

/-- Nothing is put on the bus, and the sequencer stays where it is in the grammar. -/
theorem TraceInv.keep (h : TraceInv s) (kept : t.trace = s.trace) (same : grammarAt t.st = grammarAt s.st) : TraceInv t := by
  rw [TraceInv, kept, same]
  exact h

/-- Each micro-step emits the symbol that leads the grammar to where the sequencer goes. -/
theorem MicroStep.keeps_traceInv (m : MicroStep s t) (h : TraceInv s) : TraceInv t := by
  cases m with
  | idle => exact h
  | start hs | restart hs | registerAcked _ hs | timedOut _ hs | phaseB hs => exact h.emit rfl (by rw [hs]; rfl)
  | writeAcked _ hs | readAcked _ hs => exact h.emit rfl (by rw [hs]; simp [grammarAt, follow])
  | nacked p b asked =>
    refine h.emit rfl ?_
    rcases asked with ⟨hs, rfl⟩ | ⟨hs, -⟩ | ⟨hs, rfl⟩ <;> simp [hs, grammarAt, follow]
  | received p d hs =>
    refine h.emit rfl ?_
    by_cases last : s.cnt + 1#6 = s.n <;> simp [hs, last, grammarAt, follow, masterAck]
  | commit hs => exact h.emit (commit_trace s) (by rw [hs, commit_st]; rfl)

/-- A command is accepted in `IDLE` only, and `START` is no further in the grammar (R154, R11). -/
theorem CommandWrite.keeps_traceInv {v : Word} (c : CommandWrite v s t) (inv : Inv s) (h : TraceInv s) : TraceInv t := by
  refine h.keep c.keeps_trace ?_
  cases c with
  | accepted i o w r ready =>
    have idle : s.st = .idle := by simpa [ready] using inv.busy_iff
    rw [idle]
    rfl
  | dropped | rejected => rw [raise_st]

theorem HostTurn.keeps_traceInv {u : Turn} (c : HostTurn u s t) (inv : Inv s) (h : TraceInv s) : TraceInv t := by
  cases c with
  | otherWrite | read | wait => exact h
  | commandWrite _ _ _ c => exact c.keeps_traceInv inv h

/-- `X` may come anywhere inside a transaction, and ends it (R192). -/
theorem follow_abandoned {q : SeqState} (inside : q ≠ .idle ∧ q ≠ .start) :
    follow (grammarAt q) .abandoned = some .start := by
  cases q with
  | idle | start => simp at inside
  | _ => rfl

/-- `Reset` finds the bus owned exactly inside a transaction, which its marker `X` then ends (R28, R192). -/
theorem TraceInv.resetAction (h : TraceInv s) (inv : Inv s) : TraceInv s.resetAction := by
  by_cases inside : s.st ≠ .idle ∧ s.st ≠ .start
  · exact h.emit (y := .abandoned) (by simp [traceAfterReset, inv.owned inside]) (follow_abandoned inside)
  · have free : s.bus ≠ .owned := mt inv.bus_iff.mp inside
    have outside : s.st = .idle ∨ s.st = .start := by tauto
    refine h.keep (by simp [traceAfterReset, free]) ?_
    rcases outside with hs | hs <;> rw [hs] <;> rfl

/-- Settles O46: a micro-step emits the grammar's next symbol, a turn of the host none, and `Reset` ends the transaction. -/
theorem stepKeepsTraceGrammar : Obligations.StepKeepsTraceGrammar := by
  intro s t inv h hst
  cases step_cases hst with
  | controller _ _ m => exact m.keeps_traceInv h
  | host _ _ _ _ c => exact c.keeps_traceInv (inv.setAgenda _) h
  | reset _ => exact TraceInv.resetAction (s := { s with agenda := s.agenda.tail }) h (inv.setAgenda _)

end Sys2Proof.Machine
end

section
/-! The micro-steps as whole next states (R90 to R96). -/

namespace Sys2Proof.Machine

variable {s : State}

/-! ### One micro-step for each `ST` -/

theorem microStep_start (h : s.st = .start) : microStep s = .next (stepStart s) := by simp only [microStep, h]

theorem microStep_addrw (h : s.st = .addrw) : microStep s = .next (stepAddrW s) := by simp only [microStep, h]

theorem microStep_cmdb (h : s.st = .cmdb) : microStep s = .next (stepCmdB s) := by simp only [microStep, h]

theorem microStep_rstart (h : s.st = .rstart) : microStep s = .next (stepRStart s) := by simp only [microStep, h]

theorem microStep_addrr (h : s.st = .addrr) : microStep s = .next (stepAddrR s) := by simp only [microStep, h]

theorem microStep_datab (h : s.st = .datab) : microStep s = stepDataB s := by simp only [microStep, h]

theorem microStep_stop (h : s.st = .stop) : microStep s = .next (stepStop s) := by simp only [microStep, h]

/-! ### The statements -/

/-- Settles O26: neither step reads anything but `ST`. -/
theorem startAndRestartSteps : Obligations.StartAndRestartSteps :=
  ⟨fun _ h => microStep_start h, fun _ h => microStep_rstart h⟩

/-- Settles O27: the three steps transmit their byte in one way, and differ in where an `ACK` leads. -/
theorem transmitSteps : Obligations.TransmitSteps := by
  intro s a p answer
  cases a with
  | ack =>
    refine ⟨fun h => ?_, fun h => ?_, fun h => ?_⟩
    · rw [microStep_addrw h, stepAddrW, transmit_acked answer]; rfl
    · rw [microStep_cmdb h, stepCmdB, transmit_acked answer]; rfl
    · rw [microStep_addrr h, stepAddrR, transmit_acked answer]; rfl
  | nack =>
    refine ⟨fun h => ?_, fun h => ?_, fun h => ?_⟩
    · rw [microStep_addrw h, stepAddrW, transmit_nacked answer]; rfl
    · rw [microStep_cmdb h, stepCmdB, transmit_nacked answer]; rfl
    · rw [microStep_addrr h, stepAddrR, transmit_nacked answer]; rfl

/-- Below `N` the count does not wrap. -/
theorem count_succ {c n : BitVec 6} (below : c.toNat < n.toNat) : (c + 1#6).toNat = c.toNat + 1 := by bv_omega

/-- A byte received where R95's side condition holds: stored at `CNT`, and answered. -/
theorem microStep_byte (h : s.st = .datab) (below : s.cnt.toNat < s.n.toNat) (room : s.n.toNat ≤ 33) {d : Byte} {p : Periph}
    (answer : s.periph.slot = (.byte d, p)) :
    microStep s = .next { s with
      periph := p
      trace := s.trace ++ [.received d (if s.cnt.toNat + 1 = s.n.toNat then .nack else .ack)]
      rbuf := s.rbuf.setIfInBounds s.cnt.toNat d
      cnt := s.cnt + 1#6
      st := if s.cnt.toNat + 1 = s.n.toNat then .stop else .datab } := by
  rw [microStep_datab h, stepDataB, if_pos ⟨below, room⟩, answer]
  simp [last_slot_iff below, masterAck, State.storeByte, State.emit]

/-- A timeout in a receive slot. -/
theorem microStep_timeout (h : s.st = .datab) (below : s.cnt.toNat < s.n.toNat) (room : s.n.toNat ≤ 33) {p : Periph}
    (answer : s.periph.slot = (.timeout, p)) :
    microStep s = .next { s with periph := p, trace := s.trace ++ [.timeout], failf := true, st := .stop } := by
  rw [microStep_datab h, stepDataB, if_pos ⟨below, room⟩, answer]
  rfl

/-- Settles O28: the byte goes to `RBUF[CNT]`, which is in the buffer, and the last slot is found without wrapping. -/
theorem receiveStep : Obligations.ReceiveStep := by
  intro s p h below room
  refine ⟨fun d answer => ⟨_, fun j _ => ?_, microStep_byte h below room answer⟩, microStep_timeout h below room⟩
  exact byteAt_setIfInBounds s.rbuf (Nat.lt_of_lt_of_le below room) j d

/-- Settles O29: the stop of a successful phase A releases the bus and starts phase B with the clamped length. -/
theorem phaseAEnds : Obligations.PhaseAEnds := by
  intro s h string phase unfailed
  rw [microStep_stop h, stepStop, if_pos ⟨string, phase, unfailed⟩, State.startPhaseB, (clampLength_eq _).2]
  rfl

end Sys2Proof.Machine
end

section
/-! The shapes of `MemRead`'s trace (R84, R85). -/

namespace Sys2Proof.Machine

/-! ### `MemRead`, one equation for each answer of the peripheral -/

@[simp] theorem receiveLoop_zero (p : Periph) : receiveLoop 0 p = ⟨true, [], [.stop], p⟩ := rfl

theorem receiveLoop_byte (k : Nat) {p p' : Periph} {d : Byte} (answer : p.slot = (.byte d, p')) :
    receiveLoop (k + 1) p = (receiveLoop k p').after d (masterAck (k == 0)) := by
  simp only [receiveLoop, answer]

theorem receiveLoop_timeout (k : Nat) {p p' : Periph} (answer : p.slot = (.timeout, p')) :
    receiveLoop (k + 1) p = ⟨false, [], [.timeout, .stop], p'⟩ := by
  simp only [receiveLoop, answer]

theorem sendThen_acked (b : Byte) (rest : Periph → ReadResult) {p p' : Periph} (answer : p.ack = (.ack, p')) :
    sendThen b rest p = { rest p' with symbols := .sent b .ack :: (rest p').symbols } := by
  simp only [sendThen, answer]

theorem sendThen_nacked (b : Byte) (rest : Periph → ReadResult) {p p' : Periph} (answer : p.ack = (.nack, p')) :
    sendThen b rest p = ⟨false, [], [.sent b .nack, .stop], p'⟩ := by
  simp only [sendThen, answer]

/-! ### The receive slots -/

/-- All `n` bytes received, the last not acknowledged: the end of the first shape of R85. -/
def ReceivedAll (n : Nat) (r : ReadResult) : Prop :=
  r.ok = true ∧ ∃ (ds : List Byte) (d : Byte), ds.length + 1 = n ∧ r.bytes = ds ++ [d] ∧
    r.symbols = acknowledgedBytes ds ++ [.received d .nack, .stop]

/-- A timeout in place of one of the `n` bytes: the end of the last shape of R85. -/
def TimedOut (n : Nat) (r : ReadResult) : Prop :=
  r.ok = false ∧ ∃ ds : List Byte, ds.length < n ∧ r.symbols = acknowledgedBytes ds ++ [.timeout, .stop]

theorem ReceivedAll.after {n : Nat} {r : ReadResult} (h : ReceivedAll n r) (d : Byte) : ReceivedAll (n + 1) (r.after d .ack) := by
  obtain ⟨ok, ds, last, length, bytes, symbols⟩ := h
  exact ⟨ok, d :: ds, last, by simpa using length, by simp [ReadResult.after, bytes],
    by simp [ReadResult.after, symbols, acknowledgedBytes]⟩

theorem TimedOut.after {n : Nat} {r : ReadResult} (h : TimedOut n r) (d : Byte) : TimedOut (n + 1) (r.after d .ack) := by
  obtain ⟨failed, ds, length, symbols⟩ := h
  exact ⟨failed, d :: ds, by simpa using length, by simp [ReadResult.after, symbols, acknowledgedBytes]⟩

/-- The receive loop with at least one byte to go receives all of them, or times out in one of the slots. -/
theorem receiveLoop_shapes (k : Nat) (p : Periph) :
    ReceivedAll (k + 1) (receiveLoop (k + 1) p) ∨ TimedOut (k + 1) (receiveLoop (k + 1) p) := by
  induction k generalizing p with
  | zero =>
    rcases answer : p.slot with ⟨d | _, p'⟩
    · rw [receiveLoop_byte 0 answer]
      exact .inl ⟨rfl, [], d, rfl, rfl, rfl⟩
    · rw [receiveLoop_timeout 0 answer]
      exact .inr ⟨rfl, [], Nat.one_pos, rfl⟩
  | succ k ih =>
    rcases answer : p.slot with ⟨d | _, p'⟩
    · rw [receiveLoop_byte (k + 1) answer]
      exact (ih p').imp (·.after d) (·.after d)
    · rw [receiveLoop_timeout (k + 1) answer]
      exact .inr ⟨rfl, [], Nat.succ_pos _, rfl⟩

/-! ### The whole transaction -/

/-- `MemRead` with the three transmitted bytes acknowledged is its receive loop after the head of R85's shapes. -/
theorem memRead_acked (reg : Byte) (n : Nat) {p p₁ p₂ p₃ : Periph} (write : p.ack = (.ack, p₁))
    (register : p₁.ack = (.ack, p₂)) (read : p₂.ack = (.ack, p₃)) :
    memRead reg n p = { receiveLoop n p₃ with symbols := acknowledgedHead reg ++ (receiveLoop n p₃).symbols } := by
  rw [memRead, sendThen_acked _ _ write, sendThen_acked _ _ register, readPhase, sendThen_acked _ _ read]
  rfl

/-- Settles O35: the first byte not acknowledged ends the transaction, and with all three acknowledged the receive loop
decides. -/
theorem transactionShapes : Obligations.TransactionShapes := by
  intro reg n p pos
  rcases write : p.ack with ⟨_ | _, p₁⟩
  case nack =>
    rw [memRead, sendThen_nacked _ _ write]
    exact .inr ⟨rfl, .inl rfl⟩
  rcases register : p₁.ack with ⟨_ | _, p₂⟩
  case nack =>
    rw [memRead, sendThen_acked _ _ write, sendThen_nacked _ _ register]
    exact .inr ⟨rfl, .inr (.inl rfl)⟩
  rcases read : p₂.ack with ⟨_ | _, p₃⟩
  case nack =>
    rw [memRead, sendThen_acked _ _ write, sendThen_acked _ _ register, readPhase, sendThen_nacked _ _ read]
    exact .inr ⟨rfl, .inr (.inr (.inl rfl))⟩
  obtain ⟨k, rfl⟩ := Nat.exists_eq_succ_of_ne_zero (Nat.ne_of_gt pos)
  rw [memRead_acked reg _ write register read]
  rcases receiveLoop_shapes k p₃ with ⟨ok, ds, d, length, bytes, symbols⟩ | ⟨failed, ds, length, symbols⟩
  · exact .inl ⟨ok, ds, d, length, bytes, by rw [symbols]⟩
  · exact .inr ⟨failed, .inr (.inr (.inr ⟨ds, length, by rw [symbols]⟩))⟩

end Sys2Proof.Machine
end

section
/-! The micro-steps from `START` to `STOP` against `MemRead` (R100). -/

namespace Sys2Proof.Machine

variable {s t : State} {k c m : Nat} {r : ReadResult} {p : Periph} {y : Symbol} {q : SeqState} {bus : BusState}
  {cnt : BitVec 6} {d : Byte} {a : Ack}

/-! ### What the run to the stop leaves -/

/-- `t` stands at the `STOP` step that ends, from `s`, what is left of a transaction with the result `r`: the symbols are
those of `r` but for the stop, its `m` bytes lie in `RBUF` from `c` on, and nothing outside the transaction has changed. -/
structure AtStop (c m : Nat) (r : ReadResult) (s t : State) : Prop where
  frame : t = { s with
    st := .stop, failf := !r.ok, periph := r.periph, bus := t.bus, cnt := t.cnt, rbuf := t.rbuf, trace := t.trace }
  symbols : t.trace ++ [.stop] = s.trace ++ r.symbols
  bytes : r.ok = true → ∀ i < m, byteAt t.rbuf (c + i) = r.bytes.getD i 0#8
  others : ∀ j, j < c ∨ c + m ≤ j → byteAt t.rbuf j = byteAt s.rbuf j

/-- At most `k` steps lead from `s` to the `STOP` step that ends a transaction with the result `r`. -/
def ReachesStop (s : State) (k c m : Nat) (r : ReadResult) : Prop :=
  ∃ j t, j ≤ k ∧ Runs j s t ∧ AtStop c m r s t

theorem AtStop.st (h : AtStop c m r s t) : t.st = .stop := by rw [h.frame]

theorem AtStop.failf (h : AtStop c m r s t) : t.failf = !r.ok := by rw [h.frame]

theorem AtStop.periph (h : AtStop c m r s t) : t.periph = r.periph := by rw [h.frame]

theorem AtStop.ph (h : AtStop c m r s t) : t.ph = s.ph := by rw [h.frame]

theorem AtStop.agenda (h : AtStop c m r s t) : t.agenda = s.agenda := by rw [h.frame]

/-- Nothing is left of a transaction that stands at `STOP` without a failure. -/
theorem ReachesStop.refl (hs : s.st = .stop) (unfailed : s.failf = false) (k c : Nat) :
    ReachesStop s k c 0 ⟨true, [], [.stop], s.periph⟩ :=
  ⟨0, s, Nat.zero_le k, .refl s, by rw [← hs, Bool.not_true, ← unfailed], rfl, fun _ _ => nofun, fun _ _ => rfl⟩

/-! ### One micro-step before the rest of the run -/

/-- A micro-step that emits `y` and receives no byte. -/
theorem ReachesStop.of_symbol (silent : s.agenda = [])
    (micro : microStep s = .next { s with st := q, bus := bus, cnt := cnt, periph := p, trace := s.trace ++ [y] })
    (rest : ReachesStop { s with st := q, bus := bus, cnt := cnt, periph := p, trace := s.trace ++ [y] } k c m r) :
    ReachesStop s (k + 1) c m { r with symbols := y :: r.symbols } := by
  obtain ⟨j, t, bound, run, stop⟩ := rest
  exact ⟨j + 1, t, Nat.succ_le_succ bound, .micro silent micro run, stop.frame, by simp [stop.symbols], stop.bytes,
    stop.others⟩

/-- A micro-step that emits `y` and fails the transaction. -/
theorem ReachesStop.of_failure (silent : s.agenda = [])
    (micro : microStep s = .next { s with periph := p, trace := s.trace ++ [y], failf := true, st := .stop }) :
    ReachesStop s (k + 1) c m ⟨false, [], [y, .stop], p⟩ :=
  ⟨1, _, Nat.succ_pos k, .micro silent micro (.refl _), rfl, by simp, nofun, fun _ _ => rfl⟩

/-- A micro-step that transmits `b`, and goes on only when it is acknowledged. -/
theorem ReachesStop.of_sent {b : Byte} {rest : Periph → ReadResult} (silent : s.agenda = [])
    (acked : ∀ p, s.periph.ack = (.ack, p) →
      microStep s = .next { s with st := q, cnt := cnt, periph := p, trace := s.trace ++ [.sent b .ack] })
    (nacked : ∀ p, s.periph.ack = (.nack, p) →
      microStep s = .next { s with periph := p, trace := s.trace ++ [.sent b .nack], failf := true, st := .stop })
    (later : ∀ p, ReachesStop { s with st := q, cnt := cnt, periph := p, trace := s.trace ++ [.sent b .ack] } k c m (rest p)) :
    ReachesStop s (k + 1) c m (sendThen b rest s.periph) := by
  rcases answer : s.periph.ack with ⟨_ | _, p⟩
  · rw [sendThen_acked b rest answer]
    exact .of_symbol silent (acked p answer) (later p)
  · rw [sendThen_nacked b rest answer]
    exact .of_failure silent (nacked p answer)

/-- A micro-step that receives the byte `d` in slot `c`. -/
theorem ReachesStop.of_byte (silent : s.agenda = []) (slot : c < 33)
    (micro : microStep s = .next { s with
      st := q, cnt := cnt, periph := p, rbuf := s.rbuf.setIfInBounds c d, trace := s.trace ++ [.received d a] })
    (rest : ReachesStop { s with
      st := q, cnt := cnt, periph := p, rbuf := s.rbuf.setIfInBounds c d, trace := s.trace ++ [.received d a] }
      k (c + 1) m r) :
    ReachesStop s (k + 1) c (m + 1) (r.after d a) := by
  obtain ⟨j, t, bound, run, stop⟩ := rest
  have stored (i : Nat) (outside : i < c + 1 ∨ c + 1 + m ≤ i) : byteAt t.rbuf i = if i = c then d else byteAt s.rbuf i :=
    (stop.others i outside).trans (byteAt_setIfInBounds s.rbuf slot i d)
  refine ⟨j + 1, t, Nat.succ_le_succ bound, .micro silent micro run, stop.frame, ?symbols,
    fun ok i hi => ?bytes, fun i hi => ?others⟩
  case symbols => simp [stop.symbols, ReadResult.after]
  case bytes =>
    cases i with
    | zero => simp [stored c (by omega), ReadResult.after]
    | succ i =>
      rw [Nat.add_comm i, ← Nat.add_assoc, stop.bytes ok i (by omega)]
      simp [ReadResult.after, Nat.add_comm 1]
  case others => rw [stored i (by omega), if_neg (by omega)]

/-! ### From the receive slots back to `START` -/

/-- With `m` bytes to go the `DATAB` steps run the receive loop; with none the sequencer is at `STOP`. -/
theorem reachesStop_of_slots (m : Nat) {s : State} (hs : s.st = if m = 0 then .stop else .datab) (silent : s.agenda = [])
    (unfailed : s.failf = false) (count : s.cnt.toNat + m = s.n.toNat) (room : s.n.toNat ≤ 33) :
    ReachesStop s m s.cnt.toNat m (receiveLoop m s.periph) := by
  induction m generalizing s with
  | zero => exact .refl hs unfailed 0 _
  | succ m ih =>
    have hs : s.st = .datab := by simpa using hs
    have below : s.cnt.toNat < s.n.toNat := by omega
    rcases answer : s.periph.slot with ⟨d | _, p⟩
    · have last : s.cnt.toNat + 1 = s.n.toNat ↔ m = 0 := by omega
      have next := count_succ below
      have micro := microStep_byte hs below room answer
      simp only [last] at micro
      rw [receiveLoop_byte m answer, show masterAck (m == 0) = if m = 0 then .nack else .ack by simp [masterAck]]
      refine .of_byte silent (by omega) micro ?_
      rw [← next]
      exact ih rfl silent unfailed (by simp only [next]; omega) room
    · rw [receiveLoop_timeout m answer]
      exact .of_failure silent (microStep_timeout hs below room answer)

section
variable (silent : s.agenda = []) (unfailed : s.failf = false) (pos : 1 ≤ s.n.toNat) (room : s.n.toNat ≤ 33)
include silent unfailed pos room

theorem reachesStop_of_addrr (hs : s.st = .addrr) :
    ReachesStop s (s.n.toNat + 1) 0 s.n.toNat (sendThen (addrRead Config.periphAddr) (receiveLoop s.n.toNat) s.periph) := by
  refine .of_sent (q := .datab) (cnt := 0#6) silent (fun p answer => (transmitSteps s .ack p answer).2.2 hs)
    (fun p answer => (transmitSteps s .nack p answer).2.2 hs) fun p => ?_
  exact reachesStop_of_slots s.n.toNat (if_neg (Nat.ne_of_gt pos)).symm silent unfailed (Nat.zero_add _) room

theorem reachesStop_of_rstart (hs : s.st = .rstart) :
    ReachesStop s (s.n.toNat + 2) 0 s.n.toNat (readPhase s.n.toNat s.periph) :=
  .of_symbol silent (startAndRestartSteps.2 s hs) (reachesStop_of_addrr silent unfailed pos room rfl)

theorem reachesStop_of_cmdb (hs : s.st = .cmdb) :
    ReachesStop s (s.n.toNat + 3) 0 s.n.toNat (sendThen s.regl (readPhase s.n.toNat) s.periph) :=
  .of_sent silent (fun p answer => (transmitSteps s .ack p answer).2.1 hs)
    (fun p answer => (transmitSteps s .nack p answer).2.1 hs) fun _ => reachesStop_of_rstart silent unfailed pos room rfl

theorem reachesStop_of_addrw (hs : s.st = .addrw) :
    ReachesStop s (s.n.toNat + 4) 0 s.n.toNat
      (sendThen (addrWrite Config.periphAddr) (sendThen s.regl (readPhase s.n.toNat)) s.periph) :=
  .of_sent silent (fun p answer => (transmitSteps s .ack p answer).1 hs)
    (fun p answer => (transmitSteps s .nack p answer).1 hs) fun _ => reachesStop_of_cmdb silent unfailed pos room rfl

/-- From `START` the micro-steps to `STOP` do what `MemRead(REGL, N)` does (R100). -/
theorem reachesStop_of_start (hs : s.st = .start) :
    ReachesStop s (s.n.toNat + 5) 0 s.n.toNat (memRead s.regl s.n.toNat s.periph) :=
  .of_symbol silent (startAndRestartSteps.1 s hs) (reachesStop_of_addrw silent unfailed pos room rfl)

end

/-- Whichever way a `STOP` step goes on, it emits the stop symbol. -/
theorem stepStop_trace (s : State) : (stepStop s).trace = s.trace ++ [.stop] := by
  rw [stepStop]
  split
  · rfl
  · exact commit_trace s

/-- Settles O36: the run to `STOP` leaves what `MemRead` gives, and the `STOP` step adds its last symbol. -/
theorem sequencerRunsMemRead : Obligations.SequencerRunsMemRead := by
  intro s hs unfailed silent pos room
  obtain ⟨k, t, bound, run, stop⟩ := reachesStop_of_start silent unfailed pos room hs
  have micro : step t = .next (stepStop t) := (step_of_silent (stop.agenda.trans silent)).trans (microStep_stop stop.st)
  exact ⟨k, t, bound, run, stop.st, stop.ph, ⟨_, micro, (stepStop_trace t).trans stop.symbols⟩, by simp [stop.failf],
    fun ok i hi => by simpa using stop.bytes ok i hi, stop.periph⟩

end Sys2Proof.Machine
end

section
/-! Every step answers, and every operation ends (R98, R99, R176). -/

namespace Sys2Proof.Machine

variable {s t : State}

/-! ### Every step answers -/

/-- The invariant gives the side condition of R95. -/
theorem Inv.microStep_answers (h : Inv s) : ∃ t, microStep s = .next t :=
  Machine.microStep_answers fun hs => ⟨h.slot_count hs, h.counts.1⟩

/-- At a word offset a write answers: a command write always does, any other changes nothing. -/
theorem hostWrite_answers {off : Offset} (word : off.isWord = true) (v : Word) (s : State) :
    ∃ t, hostWrite off v s = .next t := by
  by_cases command : off = 0x00#7
  · obtain ⟨t, answered, -⟩ := writeCommand_cases v s
    exact ⟨t, by rw [hostWrite, if_pos word, if_pos command, answered]⟩
  · exact ⟨s, hostWrite_other word command v s⟩

/-- Settles O47: by the next turn; only a host access looks at an offset. -/
theorem everyStepAnswers : Obligations.EveryStepAnswers := by
  intro s h
  cases agenda : s.agenda with
  | nil =>
    rw [step_of_silent agenda]
    exact .inl h.microStep_answers
  | cons u rest =>
    rw [step_of_turn agenda]
    cases u with
    | controller => exact .inl (h.setAgenda rest).microStep_answers
    | wait | reset => exact .inl ⟨_, rfl⟩
    | write off v =>
      by_cases word : off.isWord = true
      · exact .inl (hostWrite_answers word v _)
      · exact .inr ⟨off, rest, by simpa using word, .inl ⟨v, rfl⟩, hostWrite_refused word v _⟩
    | read off =>
      by_cases word : off.isWord = true
      · exact .inl ⟨_, if_pos word⟩
      · exact .inr ⟨off, rest, by simpa using word, .inr rfl, hostRead_refused word _⟩

/-! ### Every operation ends -/

/-- The micro-steps from `ST` to the end of the transaction, its `STOP` step included, if none fails. -/
def stepsToEnd (n cnt : Nat) : SeqState → Nat
  | .idle => 0
  | .start => n + 6
  | .addrw => n + 5
  | .cmdb => n + 4
  | .rstart => n + 3
  | .addrr => n + 2
  | .datab => n - cnt + 1
  | .stop => 1

/-- The micro-steps that an operation may still take: those of its transaction, and in phase A of a string those of the
longest phase B, of 33 bytes (R99). -/
def stepsLeft (s : State) : Nat :=
  if s.st = .idle then 0 else stepsToEnd s.n.toNat s.cnt.toNat s.st + if s.opk = 1#1 ∧ s.ph = .a then 39 else 0

theorem stepsToEnd_le (n cnt : Nat) (q : SeqState) : stepsToEnd n cnt q ≤ n + 6 := by
  cases q <;> simp only [stepsToEnd] <;> omega

/-- An operation takes at most 46 micro-steps: 7 and 39 for the phases of a string, 39 for any other transaction. -/
theorem Inv.stepsLeft_le (h : Inv s) : stepsLeft s ≤ 46 := by
  have steps := stepsToEnd_le s.n.toNat s.cnt.toNat s.st
  have bound := h.counts.1
  rw [stepsLeft]
  split
  · exact Nat.zero_le 46
  · next active =>
    split
    · next stringA =>
      have single : s.n = 1#6 := by
        rw [(h.busy_count (h.busy_iff.mpr active)).1 stringA.2, stringA.1]
        rfl
      rw [single] at steps ⊢
      exact Nat.add_le_add_right steps 39
    · omega

/-- Within a transaction the steps left fall with those of the transaction. -/
theorem stepsLeft_lt_of_transaction (active : s.st ≠ .idle) (opk : t.opk = s.opk) (ph : t.ph = s.ph)
    (nearer : stepsToEnd t.n.toNat t.cnt.toNat t.st < stepsToEnd s.n.toNat s.cnt.toNat s.st) : stepsLeft t < stepsLeft s := by
  rw [stepsLeft, stepsLeft, if_neg active, opk, ph]
  split <;> omega

/-- Each micro-step of an operation takes it nearer to its end. -/
theorem MicroStep.stepsLeft_lt (m : MicroStep s t) (active : s.st ≠ .idle) : stepsLeft t < stepsLeft s := by
  cases m with
  | idle hs => exact absurd hs active
  | start hs | restart hs | writeAcked _ hs | registerAcked _ hs | readAcked _ hs =>
    exact stepsLeft_lt_of_transaction active rfl rfl (by rw [hs]; exact Nat.lt_succ_self _)
  | nacked p b asked =>
    refine stepsLeft_lt_of_transaction active rfl rfl ?_
    rcases asked with ⟨hs, -⟩ | ⟨hs, -⟩ | ⟨hs, -⟩ <;> simp [hs, stepsToEnd]
  | received p d hs below =>
    have below : s.cnt.toNat < s.n.toNat := below
    refine stepsLeft_lt_of_transaction active rfl rfl ?_
    rw [storeByte_st, hs]
    split
    · simpa [stepsToEnd] using below
    · simp only [stepsToEnd, storeByte_n, storeByte_cnt, emit_n, emit_cnt, count_succ below]
      omega
  | timedOut p hs below =>
    have below : s.cnt.toNat < s.n.toNat := below
    exact stepsLeft_lt_of_transaction active rfl rfl (by simpa [hs, stepsToEnd] using below)
  | phaseB hs string phase =>
    have longest := clampLength_succ_le s.rbuf[0]
    have now : stepsLeft s = 40 := by simp [stepsLeft, stepsToEnd, hs, string, phase]
    have next : stepsLeft s.release.startPhaseB = (clampLength s.rbuf[0] + 1#6).toNat + 6 := by simp [stepsLeft, stepsToEnd]
    omega
  | commit hs => simp [stepsLeft, hs, stepsToEnd]

/-- The controller takes no turn of the host. -/
theorem MicroStep.keeps_agenda (m : MicroStep s t) : t.agenda = s.agenda := by
  cases m with
  | commit => exact commit_agenda s
  | _ => rfl

/-- With the host silent an operation ends within the micro-steps it has left. -/
theorem Inv.runs_to_end (h : Inv s) (silent : s.agenda = []) : ∃ k t, k ≤ stepsLeft s ∧ Runs k s t ∧ t.busy = false := by
  induction left : stepsLeft s using Nat.strong_induction_on generalizing s with
  | _ left' ih =>
    subst left
    by_cases active : s.st = .idle
    · exact ⟨0, s, Nat.zero_le _, .refl s, by simpa [active] using h.busy_iff⟩
    · obtain ⟨u, micro⟩ := h.microStep_answers
      have m := microStep_cases micro
      have nearer := m.stepsLeft_lt active
      obtain ⟨k, t, bound, run, ended⟩ := ih _ nearer (m.keeps_inv h) (m.keeps_agenda.trans silent) rfl
      exact ⟨k + 1, t, Nat.lt_of_le_of_lt bound nearer, .micro silent micro run, ended⟩

/-- Settles O43: the micro-steps left are at most 46. -/
theorem operationsEnd : Obligations.OperationsEnd := by
  intro s h silent
  obtain ⟨k, t, bound, run, ended⟩ := h.runs_to_end silent
  exact ⟨k, t, bound.trans h.stepsLeft_le, run, ended⟩

end Sys2Proof.Machine
end

section
/-! The word assembler (R113, R116, R117): one word of four payload bytes, those past the width zero. -/

namespace Sys2Proof.Machine

/-! ### Four bytes as a word -/

theorem append_setWidth_eq_or {n m k : Nat} (x : BitVec n) (y : BitVec m) :
    (x ++ y).setWidth k = y.setWidth k ||| x.setWidth k <<< m := by
  ext j hj
  simp only [BitVec.getElem_setWidth, BitVec.getLsbD_append, BitVec.getElem_or, BitVec.getElem_shiftLeft]
  by_cases low : j < m
  · simp [low]
  · simp [low, BitVec.getLsbD_of_ge y j (by omega)]

/-- Four bytes of a word as the or of the shifted bytes: the fields do not overlap (R116). -/
theorem append_bytes_eq_or (p q r s : Byte) :
    (p ++ q ++ r ++ s : Word) =
      s.setWidth 32 ||| r.setWidth 32 <<< 8 ||| q.setWidth 32 <<< 16 ||| p.setWidth 32 <<< 24 := by
  rw [← BitVec.setWidth_eq (p ++ q ++ r ++ s : Word), append_setWidth_eq_or, append_setWidth_eq_or, append_setWidth_eq_or]
  simp only [BitVec.shiftLeft_or_distrib, ← BitVec.shiftLeft_add, Nat.reduceAdd, BitVec.or_assoc]

/-- Byte `j` of a word, the least significant first. -/
theorem append_bytes_shift (c : Nat → Byte) {j : Nat} (hj : j < 4) :
    ((c 3 ++ c 2 ++ c 1 ++ c 0 : Word) >>> (8 * j)).setWidth 8 = c j := by
  apply BitVec.eq_of_toNat_eq
  rw [BitVec.toNat_setWidth, BitVec.toNat_ushiftRight, append_bytes_toNat, Nat.shiftRight_eq_div_pow]
  interval_cases j <;> simp only [Nat.reduceMul, Nat.reducePow] <;> omega

/-! ### The payload -/

/-- Payload byte `i` of a scalar: past the discarded bytes of the buffer, and zero from the width on (R113, R119). -/
def payloadByte (w : BitVec 3) (b : Buffer) (i : Nat) : Byte :=
  if i < w.toNat then byteAt b (skipCount w + i) else 0#8

theorem getElem_eq_byteAt (b : Buffer) {i : Nat} (hi : i < 33) : b[i] = byteAt b i := by
  rw [byteAt_eq_dite, dif_pos hi]

/-- The assembler puts the payload in one word, low byte first, zero-extended (R113). -/
theorem assembleScalar_eq_payload {w : BitVec 3} (legal : w = 1#3 ∨ w = 2#3 ∨ w = 4#3) (b : Buffer) :
    assembleScalar w b = payloadByte w b 3 ++ payloadByte w b 2 ++ payloadByte w b 1 ++ payloadByte w b 0 := by
  rcases legal with rfl | rfl | rfl
  · rw [append_bytes_eq_or]
    simp [assembleScalar, payloadByte, skipCount, getElem_eq_byteAt]
  · rw [append_bytes_eq_or]
    simpa [assembleScalar, payloadByte, skipCount, getElem_eq_byteAt] using append_setWidth_eq_or (byteAt b 1) (byteAt b 0)
  · simp [assembleScalar, payloadByte, skipCount, getElem_eq_byteAt]

/-- The value of a scalar as a number: the sum of its payload bytes times powers of 256 (R116). -/
theorem assembleScalar_toNat {w : BitVec 3} (legal : w = 1#3 ∨ w = 2#3 ∨ w = 4#3) (b : Buffer) :
    (assembleScalar w b).toNat = (payloadByte w b 0).toNat + (payloadByte w b 1).toNat * 2 ^ 8 +
      (payloadByte w b 2).toNat * 2 ^ 16 + (payloadByte w b 3).toNat * 2 ^ 24 := by
  rw [assembleScalar_eq_payload legal, append_bytes_toNat]
  omega

/-- The value of a scalar as bits: the or of its shifted payload bytes (R116). -/
theorem assembleScalar_eq_or {w : BitVec 3} (legal : w = 1#3 ∨ w = 2#3 ∨ w = 4#3) (b : Buffer) :
    assembleScalar w b = (payloadByte w b 0).setWidth 32 ||| (payloadByte w b 1).setWidth 32 <<< 8 |||
      (payloadByte w b 2).setWidth 32 <<< 16 ||| (payloadByte w b 3).setWidth 32 <<< 24 := by
  rw [assembleScalar_eq_payload legal, append_bytes_eq_or]

theorem assembleScalar_one (b : Buffer) : assembleScalar 1#3 b = (byteAt b 0).setWidth 32 := by
  simp [assembleScalar_eq_or, payloadByte, skipCount]

theorem assembleScalar_two (b : Buffer) :
    assembleScalar 2#3 b = (byteAt b 0).setWidth 32 ||| (byteAt b 1).setWidth 32 <<< 8 := by
  simp [assembleScalar_eq_or, payloadByte, skipCount]

theorem assembleScalar_four (b : Buffer) :
    assembleScalar 4#3 b = (byteAt b 1).setWidth 32 ||| (byteAt b 2).setWidth 32 <<< 8 |||
      (byteAt b 3).setWidth 32 <<< 16 ||| (byteAt b 4).setWidth 32 <<< 24 := by
  simp [assembleScalar_eq_or, payloadByte, skipCount]

/-! ### The statements -/

/-- Settles O32: the sum and the or of the four payload bytes, those past the width being zero; the sum bounds the value. -/
theorem assemblerSum : Obligations.AssemblerSum := by
  intro b
  have sum1 : (assembleScalar 1#3 b).toNat = (byteAt b 0).toNat := by
    simp [assembleScalar_toNat, payloadByte, skipCount]
  have sum2 : (assembleScalar 2#3 b).toNat = (byteAt b 0).toNat + (byteAt b 1).toNat * 2 ^ 8 := by
    simp [assembleScalar_toNat, payloadByte, skipCount]
  exact ⟨⟨sum1, by omega, assembleScalar_one b⟩, ⟨sum2, by omega, assembleScalar_two b⟩,
    by simp [assembleScalar_toNat, payloadByte, skipCount], (assembleScalar 4#3 b).isLt, assembleScalar_four b⟩

/-- Settles O33: byte `i` of the word is payload byte `i`, which below the width is a byte of the buffer. -/
theorem assemblerBytes : Obligations.AssemblerBytes := by
  intro b w i legal below
  have word : i < 4 := by rcases legal with rfl | rfl | rfl <;> simp at below <;> omega
  rw [assembleScalar_eq_payload legal, append_bytes_shift _ word, payloadByte, if_pos below]

end Sys2Proof.Machine
end

section
/-! The scalar commands RD8, RD16, RD32 from acceptance to commit (R110 to R113). -/

namespace Sys2Proof.Machine

variable {s t : State} {w : BitVec 3} {reg : Byte} {i : Instr} {big : Periph → ScalarResult}

/-! ### The commit -/

/-- The `STOP` step of a scalar operation is its commit, and no string register is written (R97, R113). -/
theorem stepStop_of_scalar (scalar : s.opk = 0#1) :
    stepStop s = { s with
      trace := s.trace ++ [.stop], bus := .free, data := if s.failf then 0#32 else assembleScalar s.wl s.rbuf,
      busy := false, done := true, ph := .a, st := .idle } := by
  rw [stepStop, if_neg (by simp [scalar]), State.commit, if_pos scalar]
  rfl

/-- Settles O30: the commit writes what the assembler gives, or zero after a failure. -/
theorem scalarCommit : Obligations.ScalarCommit := by
  intro s stop scalar _
  rw [microStep_stop stop, stepStop_of_scalar scalar]
  rfl

/-! ### From acceptance to commit -/

/-- `big` says for width `w` what a scalar read of `REG` gives: the symbols and the peripheral of `MemRead`, and the value
of any buffer that holds the bytes received, or zero after a failure (R110 to R112). -/
structure ReadsScalar (w : BitVec 3) (reg : Byte) (n : Nat) (big : Periph → ScalarResult) : Prop where
  symbols : ∀ p, (big p).symbols = (memRead reg n p).symbols
  periph : ∀ p, (big p).periph = (memRead reg n p).periph
  value : ∀ p b, ((memRead reg n p).ok = true → ∀ j < n, byteAt b j = (memRead reg n p).bytes.getD j 0#8) →
    (big p).value = if (memRead reg n p).ok then assembleScalar w b else 0#32

theorem readsScalar_rd8 (reg : Byte) : ReadsScalar 1#3 reg 1 (bigRd8 reg) where
  symbols _ := rfl
  periph _ := rfl
  value _ b received := ite_congr rfl
    (fun ok => by rw [assembleScalar_one, received ok 0 (by decide)]) fun _ => rfl

theorem readsScalar_rd16 (reg : Byte) : ReadsScalar 2#3 reg 2 (bigRd16 reg) where
  symbols _ := rfl
  periph _ := rfl
  value _ b received := ite_congr rfl
    (fun ok => by rw [assembleScalar_two, received ok 0 (by decide), received ok 1 (by decide)]) fun _ => rfl

theorem readsScalar_rd32 (reg : Byte) : ReadsScalar 4#3 reg 5 (bigRd32 reg) where
  symbols _ := rfl
  periph _ := rfl
  value _ b received := ite_congr rfl
    (fun ok => by rw [assembleScalar_four, received ok 1 (by decide), received ok 2 (by decide), received ok 3 (by decide),
      received ok 4 (by decide)]) fun _ => rfl

theorem AtStop.opk {c m : Nat} {r : ReadResult} (stop : AtStop c m r s t) : t.opk = s.opk := by rw [stop.frame]

theorem AtStop.wl {c m : Nat} {r : ReadResult} (stop : AtStop c m r s t) : t.wl = s.wl := by rw [stop.frame]

theorem AtStop.regl {c m : Nat} {r : ReadResult} (stop : AtStop c m r s t) : t.regl = s.regl := by rw [stop.frame]

theorem AtStop.scalarFrame {c m : Nat} {r : ReadResult} (stop : AtStop c m r s t) : ScalarFrame s t := by
  constructor <;> rw [stop.frame]

theorem ScalarFrame.stepStop (frame : ScalarFrame s t) (scalar : t.opk = 0#1) : ScalarFrame s (stepStop t) := by
  rw [stepStop_of_scalar scalar]
  exact { frame with }

/-- Acceptance writes none of the registers of the frame (R154). -/
theorem ScalarFrame.of_accepted {o : BitVec 1} (frame : ScalarFrame (s.latch o w reg).beginOperation t) : ScalarFrame s t :=
  { frame with }

theorem committed_of_scalar (scalar : t.opk = 0#1) (word : lastCommand t = encode i) : Committed i (stepStop t) := by
  rw [stepStop_of_scalar scalar]
  exact ⟨rfl, rfl, rfl, rfl, rfl, word⟩

/-- An accepted scalar command runs to the stop as `MemRead` does, and its commit assembles the bytes received. -/
theorem ReadsScalar.runs {n : Nat} (reads : ReadsScalar w reg n big) (issued : ∀ s, exec i s = issue 0#1 w reg s)
    (word : latchWord 0#1 w reg = encode i) (count : (firstCount 0#1 w).toNat = n) (pos : 1 ≤ n) :
    ScalarRuns i n big := by
  subst count
  intro s ready silent
  obtain ⟨k, t, bound, run, stop⟩ := reachesStop_of_start (s := (s.latch 0#1 w reg).beginOperation) silent rfl pos
    (firstCount_le 0#1 w) rfl
  have scalar : t.opk = 0#1 := stop.opk
  have width : t.wl = w := stop.wl
  have latched : lastCommand t = encode i := by rw [lastCommand, stop.opk, stop.wl, stop.regl]; exact word
  have commit : Runs 1 t (stepStop t) := .micro (stop.agenda.trans silent) (microStep_stop stop.st) (.refl _)
  refine ⟨_, k + 1, stepStop t, (issued s).trans (issue_accepted ready), rfl, rfl, rfl, rfl, Nat.succ_le_succ bound,
    run.trans commit, ?data, ?trace, ?periph, committed_of_scalar scalar latched,
    (stop.scalarFrame.stepStop scalar).of_accepted, fun j past => ?rbuf⟩
  case trace => rw [stepStop_trace, stop.symbols, reads.symbols]; rfl
  case periph => rw [stepStop_of_scalar scalar, reads.periph]; exact stop.periph
  case rbuf =>
    rw [stepStop_of_scalar scalar]
    exact stop.others j (.inr (by simpa using past))
  case data =>
    rw [stepStop_of_scalar scalar, reads.value s.periph t.rbuf fun ok j hj => by simpa using stop.bytes ok j hj]
    cases ok : (memRead reg (firstCount 0#1 w).toNat s.periph).ok <;> simp [stop.failf, width, ok]

/-! ### The statements -/

/-- Settles O37: `RD8` issues a read of one byte. -/
theorem rd8ReadsOneByte : Obligations.Rd8ReadsOneByte := fun reg =>
  (readsScalar_rd8 reg).runs (fun _ => rfl) (encode_latchWord (.rd8 reg)).symm rfl (by decide)

/-- Settles O38: `RD16` issues a read of two bytes. -/
theorem rd16ReadsTwoBytes : Obligations.Rd16ReadsTwoBytes := fun reg =>
  (readsScalar_rd16 reg).runs (fun _ => rfl) (encode_latchWord (.rd16 reg)).symm rfl (by decide)

/-- Settles O39: `RD32` issues a read of five bytes. -/
theorem rd32ReadsFourBytes : Obligations.Rd32ReadsFourBytes := fun reg =>
  (readsScalar_rd32 reg).runs (fun _ => rfl) (encode_latchWord (.rd32 reg)).symm rfl (by decide)

end Sys2Proof.Machine
end

section
/-! The string command RDSTR from acceptance to commit (R130 to R141). -/

namespace Sys2Proof.Machine

variable {s t u : State} {reg : Byte} {p : Periph} {r : ReadResult} {n m : Nat}

/-! ### The clamp -/

theorem clampLength_toNat (l : Byte) : (clampLength l).toNat = min l.toNat 32 := by
  rw [(clampLength_eq l).1, BitVec.toNat_ofNat]; omega

theorem clampLength_succ_toNat (l : Byte) : (clampLength l + 1#6).toNat = min l.toNat 32 + 1 := by
  rw [(clampLength_eq l).2, BitVec.toNat_ofNat]; omega

/-- Settles O34: the clamped length and its successor both fit in 6 bits. -/
theorem lengthClamp : Obligations.LengthClamp := fun l =>
  ⟨clampLength_toNat l, clampLength_succ_toNat l, clampLength_succ_le l⟩

/-! ### The commit -/

/-- The `STOP` step of a string operation after phase B, or after a failure, is its commit, and `DATA` is not written
(R97, R136). -/
theorem stepStop_of_string (string : s.opk = 1#1) (ends : s.ph = .b ∨ s.failf = true) :
    stepStop s = { s with
      trace := s.trace ++ [.stop], bus := .free
      strlen := if s.failf then 0#6 else clampLength s.llat
      strbuf := if s.failf then emptyBuffer else copyString (clampLength s.llat) s.rbuf
      busy := false, done := true, ph := .a, st := .idle } := by
  have last : ¬ (s.opk = 1#1 ∧ s.ph = .a ∧ s.failf = false) := by
    rintro ⟨-, phase, unfailed⟩
    simp [phase, unfailed] at ends
  rw [stepStop, if_neg last, State.commit, if_neg (by simp [string]), State.writeString]
  cases failed : s.failf <;> simp [failed, State.release, State.emit, State.setBus, State.endOperation]

/-- Settles O31: the buffer written is that of the copy, or the empty one after a failure. -/
theorem stringCommit : Obligations.StringCommit := by
  intro s stop string ends
  refine ⟨if s.failf then emptyBuffer else copyString (clampLength s.llat) s.rbuf, ?_, fun j hj => ?_⟩
  · rw [microStep_stop stop, stepStop_of_string string ends, (clampLength_eq s.llat).1]
  · cases s.failf with
    | true => exact byteAt_emptyBuffer j
    | false => simpa [clampLength_toNat] using byteAt_copyString (clampLength s.llat) s.rbuf hj

theorem committed_of_string (string : t.opk = 1#1) (ends : t.ph = .b ∨ t.failf = true) {i : Instr}
    (word : lastCommand t = encode i) : Committed i (stepStop t) := by
  rw [stepStop_of_string string ends]
  exact ⟨rfl, rfl, rfl, rfl, rfl, word⟩

/-! ### The frame -/

theorem StringFrame.trans (first : StringFrame s t) (second : StringFrame t u) : StringFrame s u where
  data := second.data.trans first.data
  fault := second.fault.trans first.fault
  cause := second.cause.trans first.cause
  finfo := second.finfo.trans first.finfo
  reads := second.reads.trans first.reads
  agenda := second.agenda.trans first.agenda

theorem AtStop.stringFrame {c : Nat} (stop : AtStop c m r s t) : StringFrame s t := by
  constructor <;> rw [stop.frame]

theorem AtStop.llat {c : Nat} (stop : AtStop c m r s t) : t.llat = s.llat := by rw [stop.frame]

theorem AtStop.command {c : Nat} (stop : AtStop c m r s t) : lastCommand t = lastCommand s := by
  simp only [lastCommand, stop.opk, stop.wl, stop.regl]

theorem stringFrame_stepStop (string : s.opk = 1#1) : StringFrame s (stepStop s) := by
  rw [stepStop, State.commit, if_neg (show ¬ s.opk = 0#1 by simp [string])]
  split <;> constructor <;> simp [State.release, State.startPhaseB]

/-! ### The characters of a transaction -/

theorem memRead_length (pos : 1 ≤ n) (ok : (memRead reg n p).ok = true) : (memRead reg n p).bytes.length = n := by
  rcases transactionShapes reg n p pos with ⟨-, ds, d, length, bytes, -⟩ | ⟨failed, -⟩
  · rw [bytes, List.length_append, List.length_singleton, length]
  · rw [failed] at ok; cases ok

/-- A result of `MemRead`, and what `RDSTR` delivers if it is that of its last transaction: the bytes after the duplicate
length byte, or none after a failure (R130, R134, R137). -/
def ReadResult.asString (r : ReadResult) : StringResult :=
  ⟨if r.ok then r.bytes.drop 1 else [], r.symbols, r.periph⟩

/-- `t` is the end of a run of `RDSTR` from `s` that gave the string result `r` (R130). -/
structure DeliversString (reg : Byte) (r : StringResult) (s t : State) : Prop where
  strlen : t.strlen.toNat = r.chars.length
  strbuf : ∀ j < 33, byteAt t.strbuf j = r.chars.getD j 0#8
  trace : t.trace = s.trace ++ r.symbols
  periph : t.periph = r.periph
  committed : Committed (.rdstr reg) t
  frame : StringFrame s t

/-- A string result with the symbols `ys` of an earlier transaction before its own. -/
def StringResult.after (ys : List Symbol) (r : StringResult) : StringResult := { r with symbols := ys ++ r.symbols }

theorem DeliversString.after {ys : List Symbol} {r : StringResult} (h : DeliversString reg r u t) (frame : StringFrame s u)
    (trace : u.trace = s.trace ++ ys) : DeliversString reg (r.after ys) s t where
  strlen := h.strlen
  strbuf := h.strbuf
  trace := by rw [h.trace, trace, List.append_assoc]; rfl
  periph := h.periph
  committed := h.committed
  frame := frame.trans h.frame

/-- The commit of a string delivers what the last transaction received, be it phase B or a phase that failed. -/
theorem AtStop.deliversString (stop : AtStop 0 n r s t) (string : s.opk = 1#1)
    (word : lastCommand s = encode (.rdstr reg)) (length : r.ok = true → r.bytes.length = n)
    (phaseB : r.ok = true → s.ph = .b ∧ n = (clampLength s.llat).toNat + 1) :
    DeliversString reg r.asString s (stepStop t) := by
  have string' : t.opk = 1#1 := stop.opk.trans string
  have ends : t.ph = .b ∨ t.failf = true := by
    rw [stop.ph, stop.failf]
    cases ok : r.ok with
    | true => exact .inl (phaseB ok).1
    | false => exact .inr rfl
  have commit := stepStop_of_string string' ends
  refine ⟨?strlen, fun j hj => ?strbuf, (stepStop_trace t).trans stop.symbols, ?periph,
    committed_of_string string' ends (stop.command.trans word), stop.stringFrame.trans (stringFrame_stepStop string')⟩
  case periph => rw [commit]; exact stop.periph
  all_goals simp only [commit, stop.failf, stop.llat, ReadResult.asString]
  case strlen =>
    cases ok : r.ok with
    | true => simp [length ok, (phaseB ok).2]
    | false => rfl
  case strbuf =>
    cases ok : r.ok with
    | true =>
      obtain ⟨-, count⟩ := phaseB ok
      rw [Bool.not_true, if_neg (by decide), if_pos rfl, byteAt_copyString _ _ hj]
      split
      next inside => simpa [Nat.add_comm] using stop.bytes ok (j + 1) (by omega)
      next outside => rw [List.getD_eq_default _ _ (by rw [List.length_drop, length ok]; omega)]
    | false => exact byteAt_emptyBuffer j

/-- The last transaction of a string operation, run from `START` to the commit. -/
theorem runs_lastTransaction (silent : s.agenda = []) (start : s.st = .start) (unfailed : s.failf = false)
    (string : s.opk = 1#1) (word : lastCommand s = encode (.rdstr reg)) (regl : s.regl = reg) (count : s.n.toNat = n)
    (periph : s.periph = p) (pos : 1 ≤ n) (room : n ≤ 33)
    (phaseB : (memRead reg n p).ok = true → s.ph = .b ∧ n = (clampLength s.llat).toNat + 1) :
    ∃ k t, k ≤ n + 6 ∧ Runs k s t ∧ DeliversString reg (memRead reg n p).asString s t := by
  subst regl count periph
  obtain ⟨k, t, bound, run, stop⟩ := reachesStop_of_start silent unfailed pos room start
  have commit : Runs 1 t (stepStop t) := .micro (stop.agenda.trans silent) (microStep_stop stop.st) (.refl _)
  exact ⟨k + 1, stepStop t, Nat.succ_le_succ bound, run.trans commit,
    stop.deliversString string word (memRead_length pos) phaseB⟩

/-! ### Both phases -/

/-- The declared length in the result of phase A (R132). -/
def ReadResult.declared (r : ReadResult) : Byte := r.bytes.getD 0 0#8

theorem bigRdstr_of_failed (failed : (memRead reg 1 p).ok = false) : bigRdstr reg p = (memRead reg 1 p).asString := by
  rw [bigRdstr, if_neg (by simp [failed]), ReadResult.asString, if_neg (by simp [failed])]

theorem bigRdstr_of_ok (ok : (memRead reg 1 p).ok = true) :
    bigRdstr reg p = (memRead reg (min (memRead reg 1 p).declared.toNat 32 + 1) (memRead reg 1 p).periph).asString.after
      (memRead reg 1 p).symbols := by
  rw [bigRdstr, if_pos ok]
  rfl

/-- The `STOP` step of a successful phase A goes on to `START` of phase B with the declared length latched (R96, R132). -/
theorem AtStop.stepStop_phaseA (stop : AtStop 0 1 r s t) (ok : r.ok = true) (string : s.opk = 1#1) (phase : s.ph = .a) :
    stepStop t = { t with
      trace := t.trace ++ [.stop], bus := .free
      llat := r.declared, n := clampLength r.declared + 1#6, ph := .b, st := .start } := by
  have declared : t.rbuf[0] = r.declared := (getElem_eq_byteAt _ _).trans (stop.bytes ok 0 Nat.one_pos)
  rw [stepStop, if_pos ⟨stop.opk.trans string, stop.ph.trans phase, by rw [stop.failf, ok]; rfl⟩, ← declared]
  rfl

/-- From the stop of a successful phase A on, phase B is run and delivered (R96, R130). -/
theorem AtStop.runs_phaseB (stop : AtStop 0 1 r s t) (ok : r.ok = true) (silent : s.agenda = []) (string : s.opk = 1#1)
    (phase : s.ph = .a) (word : lastCommand s = encode (.rdstr s.regl)) :
    ∃ k u, k ≤ min r.declared.toNat 32 + 8 ∧ Runs k t u ∧
      DeliversString s.regl ((memRead s.regl (min r.declared.toNat 32 + 1) r.periph).asString.after r.symbols) s u := by
  have micro := microStep_stop stop.st
  have trace := (stepStop_trace t).trans stop.symbols
  have frame := stop.stringFrame.trans (stringFrame_stepStop (stop.opk.trans string))
  have count := clampLength_succ_toNat r.declared
  have clamp := clampLength_toNat r.declared
  rw [stop.stepStop_phaseA ok string phase] at micro trace frame
  obtain ⟨k, u, bound, run, delivers⟩ := runs_lastTransaction (frame.agenda.trans silent) rfl
    (stop.failf.trans (by rw [ok]; rfl)) (stop.opk.trans string) (stop.command.trans word) stop.regl count stop.periph
    (Nat.succ_pos _) (by omega) fun _ => ⟨rfl, by rw [clamp]⟩
  exact ⟨k + 1, u, Nat.succ_le_succ bound, .micro (stop.agenda.trans silent) micro run, delivers.after frame trace⟩

/-- From `START` of phase A to the commit, whatever the peripheral answers (R130). -/
theorem runs_rdstr (silent : s.agenda = []) (start : s.st = .start) (unfailed : s.failf = false) (string : s.opk = 1#1)
    (phase : s.ph = .a) (word : lastCommand s = encode (.rdstr s.regl)) (count : s.n.toNat = 1) :
    ∃ k t, k ≤ min (memRead s.regl 1 s.periph).declared.toNat 32 + 14 ∧ Runs k s t ∧
      DeliversString s.regl (bigRdstr s.regl s.periph) s t := by
  cases ok : (memRead s.regl 1 s.periph).ok with
  | false =>
    obtain ⟨k, t, bound, run, delivers⟩ := runs_lastTransaction silent start unfailed string word rfl count rfl
      (by decide) (by decide) (by simp [ok])
    exact ⟨k, t, by omega, run, by rwa [bigRdstr_of_failed ok]⟩
  | true =>
    obtain ⟨k, a, bound, run, stop⟩ := reachesStop_of_start silent unfailed (by omega) (by omega) start
    rw [count] at bound stop
    obtain ⟨j, t, bound', run', delivers⟩ := stop.runs_phaseB ok silent string phase word
    exact ⟨k + j, t, by omega, run.trans run', by rwa [bigRdstr_of_ok ok]⟩

/-- Settles O40: an accepted `RDSTR` stands at `START` of phase A. -/
theorem rdstrReadsString : Obligations.RdstrReadsString := by
  intro reg s ready silent
  obtain ⟨k, t, bound, run, delivers⟩ := runs_rdstr (s := (s.latch 1#1 0#3 reg).beginOperation) silent rfl rfl rfl rfl
    (encode_latchWord (.rdstr reg)).symm rfl
  exact ⟨_, k, t, issue_accepted ready, rfl, rfl, rfl, rfl, rfl, bound, run, delivers.strlen, delivers.strbuf,
    delivers.trace, delivers.periph, delivers.committed, { delivers.frame with }⟩

/-! ### A peripheral that supplies what it is asked for -/

/-- The result `r` has the bytes `ds` and leaves the answers `p`. -/
structure Supplied (ds : List Byte) (p : Periph) (r : ReadResult) : Prop where
  ok : r.ok = true
  bytes : r.bytes = ds
  periph : r.periph = p

theorem supplied_receiveLoop (ds : List Byte) (acks : List Ack) (slots : List SlotAnswer) (k : Nat) :
    Supplied ds ⟨acks, slots, k⟩ (receiveLoop ds.length ⟨acks, ds.map .byte ++ slots, k⟩) := by
  induction ds with
  | nil => exact ⟨rfl, rfl, rfl⟩
  | cons d ds ih =>
    rw [List.length_cons, List.map_cons, List.cons_append, receiveLoop_byte _ (Periph.slot_listed ..)]
    exact ⟨ih.ok, congrArg (d :: ·) ih.bytes, ih.periph⟩

/-- `MemRead` with three acknowledgements and the bytes asked for listed. -/
theorem supplied_memRead (reg : Byte) (ds : List Byte) (acks : List Ack) (slots : List SlotAnswer) (k : Nat) :
    Supplied ds ⟨acks, slots, k⟩ (memRead reg ds.length ⟨List.replicate 3 .ack ++ acks, ds.map .byte ++ slots, k⟩) := by
  have loop := supplied_receiveLoop ds acks slots k
  have acked := memRead_acked reg ds.length (Periph.ack_listed .ack (.ack :: .ack :: acks) (ds.map .byte ++ slots) k)
    (Periph.ack_listed ..) (Periph.ack_listed ..)
  exact acked ▸ ⟨loop.ok, loop.bytes, loop.periph⟩

/-- The two phases with every byte acknowledged, a length declared, and as many characters as phase B asks for after the
duplicate length byte: those are delivered, and no later answer is asked for (R134, R139, R141). -/
theorem bigRdstr_supplied (reg : Byte) {len dup : Byte} {chars : List Byte} {acks : List Ack} {slots : List SlotAnswer}
    (length : chars.length = min len.toNat 32) (acked : p.acks = List.replicate 6 .ack ++ acks)
    (supplied : p.slots = .byte len :: .byte dup :: (chars.map .byte ++ slots)) :
    (bigRdstr reg p).chars = chars ∧ (bigRdstr reg p).periph.slots = slots := by
  obtain ⟨acks', slots', k⟩ := p
  simp only at acked supplied
  subst acked supplied
  have phaseA := supplied_memRead reg [len] (List.replicate 3 .ack ++ acks) ((dup :: chars).map .byte ++ slots) k
  have phaseB := supplied_memRead reg (dup :: chars) acks slots k
  rw [← phaseA.periph, List.length_cons, length] at phaseB
  have declared : (memRead reg 1 _).declared = len := congrArg (·.getD 0 0#8) phaseA.bytes
  have two := bigRdstr_of_ok phaseA.ok
  rw [declared] at two
  constructor
  · exact (congrArg StringResult.chars two).trans ((if_pos phaseB.ok).trans (congrArg (List.drop 1) phaseB.bytes))
  · exact (congrArg (·.periph.slots) two).trans (congrArg Periph.slots phaseB.periph)

/-- `RDSTR` against such a peripheral ends with its characters delivered and with no more than them asked for. -/
theorem runs_rdstr_supplied (reg : Byte) {len dup : Byte} {chars : List Byte} {acks : List Ack} {slots : List SlotAnswer}
    (ready : s.busy = false) (silent : s.agenda = []) (length : chars.length = min len.toNat 32)
    (acked : s.periph.acks = List.replicate 6 .ack ++ acks)
    (supplied : s.periph.slots = .byte len :: .byte dup :: (chars.map .byte ++ slots)) :
    ∃ t₀ k t, exec (.rdstr reg) s = .next t₀ ∧ Runs k t₀ t ∧ t.busy = false ∧ t.done = true ∧
      t.strlen.toNat = chars.length ∧ (∀ j < 33, byteAt t.strbuf j = chars.getD j 0#8) ∧ t.periph.slots = slots ∧
      t.fault = s.fault := by
  obtain ⟨t₀, k, t, accepted, -, -, -, -, -, -, run, strlen, strbuf, -, periph, committed, frame⟩ :=
    rdstrReadsString reg s ready silent
  obtain ⟨delivered, later⟩ := bigRdstr_supplied reg length acked supplied
  rw [delivered] at strlen strbuf
  exact ⟨t₀, k, t, accepted, run, committed.busy, committed.done, strlen, strbuf, by rw [periph, later], frame.fault⟩

/-- Settles O41: a length up to 32 is not clamped, and the byte after the characters is the first zero. -/
theorem stringRoundTrip : Obligations.StringRoundTrip := by
  intro s reg dup chars acks slots ready silent short acked supplied
  obtain ⟨t₀, k, t, accepted, run, busy, done, strlen, strbuf, -, -⟩ :=
    runs_rdstr_supplied reg ready silent (by rw [BitVec.toNat_ofNat]; omega) acked supplied
  refine ⟨t₀, k, t, accepted, run, busy, done, strlen, fun j hj => strbuf j (by omega), ?_⟩
  rw [strbuf _ (by omega), List.getD_eq_default _ _ (Nat.le_refl _)]

/-- Settles O42: a length above 32 is clamped to the 32 characters supplied. -/
theorem longStringTruncated : Obligations.LongStringTruncated := by
  intro s reg len dup chars acks slots ready silent long full acked supplied
  obtain ⟨t₀, k, t, accepted, run, busy, done, strlen, strbuf, later, fault⟩ :=
    runs_rdstr_supplied reg ready silent (by omega) acked supplied
  refine ⟨t₀, k, t, accepted, run, busy, done, BitVec.eq_of_toNat_eq (strlen.trans full), fun j hj => strbuf j (by omega),
    ?_, later, fault⟩
  rw [strbuf 32 (by decide), List.getD_eq_default _ _ (Nat.le_of_eq full)]

end Sys2Proof.Machine
end

section
/-! Writes to `CMD`: accepted, dropped or rejected (R153 to R157). -/

namespace Sys2Proof.Machine

variable {s t : State} {v : Word} {i : Instr}

/-! ### How a command comes to run -/

theorem hostWrite_command (v : Word) (s : State) : hostWrite 0x00#7 v s = writeCommand v s := rfl

theorem writeCommand_of_decode (decoded : decode v = .ok i) (s : State) : writeCommand v s = exec i s := by
  rw [writeCommand, decoded]

/-- Settles O9: a write of a legal word to `CMD` is `exec` of the command it decodes to. -/
theorem stepRunsDecodedCommand : Obligations.StepRunsDecodedCommand := by
  intro s v i rest agenda decoded
  exact (step_of_turn agenda).trans (writeCommand_of_decode decoded _)

/-- A command word placed as 32 bits is a write of that word to `CMD` before the other turns. -/
theorem withFetchWord_agenda (s : State) (i : Instr) :
    (s.withFetchWord 32 (encode i).toNat).agenda = .write 0x00#7 (encode i) :: s.agenda := by
  simp only [State.withFetchWord, Nat.mod_eq_of_lt (encode i).isLt, BitVec.ofNat_toNat, BitVec.setWidth_eq]

/-- Settles O10: the placed word decodes to its command (O2), and taking its turn gives the state back. -/
theorem fetchWordRunsCommand : Obligations.FetchWordRunsCommand := fun s i =>
  stepRunsDecodedCommand _ _ i s.agenda (withFetchWord_agenda s i) (decodeOfEncode i)

/-! ### What the write does -/

/-- Settles O11: a legal word is the packed fields of a command, which the acceptance latches. -/
theorem legalWriteAccepted : Obligations.LegalWriteAccepted := by
  intro s v ready legal
  obtain ⟨t, written, c⟩ := writeCommand_cases v s
  rw [hostWrite_command, written]
  cases c with
  | accepted i o w r _ _ _ packed =>
    have str : v.extractLsb' 11 1 = o := packed ▸ fieldStr_latchWord o w r
    have width : v.extractLsb' 8 3 = w := packed ▸ fieldWidth_latchWord o w r
    have reg : v.extractLsb' 0 8 = r := packed ▸ fieldReg_latchWord o w r
    rw [str, width, reg]
    rfl
  | dropped busy => simp [ready] at busy
  | rejected _ _ illegal =>
    obtain ⟨i, decoded⟩ := (legal_iff_decode v).mp legal
    simp [illegal] at decoded

/-- Settles O12: each command issues its own fields, and `BUSY` = 0 is all that the acceptance asks. -/
theorem commandsBegin : Obligations.CommandsBegin := fun _ _ ready =>
  ⟨issue_accepted ready, issue_accepted ready, issue_accepted ready, issue_accepted ready⟩

/-- Settles O13: with `BUSY` = 0 a word that is no command's is rejected. -/
theorem illegalWriteRecorded : Obligations.IllegalWriteRecorded := by
  intro s v ready illegal
  obtain ⟨t, written, c⟩ := writeCommand_cases v s
  rw [hostWrite_command, written]
  cases c with
  | accepted i _ _ _ _ decoded => exact absurd ((legal_iff_decode v).mpr ⟨i, decoded⟩) illegal
  | dropped busy => simp [ready] at busy
  | rejected => rfl

/-- Settles O14: with `BUSY` = 1 a word is neither accepted nor rejected, whatever it is. -/
theorem busyWriteDropped : Obligations.BusyWriteDropped := by
  intro s v busy
  obtain ⟨t, written, c⟩ := writeCommand_cases v s
  rw [hostWrite_command, written]
  cases c with
  | accepted _ _ _ _ ready => simp [busy] at ready
  | dropped => rfl
  | rejected _ ready => simp [busy] at ready

/-! ### What the write leaves alone -/

/-- A command that answers has been written as its own word. -/
theorem commandWrite_of_exec (h : exec i s = .next t) : CommandWrite (encode i) s t := by
  obtain ⟨t', written, c⟩ := writeCommand_cases (encode i) s
  rw [writeCommand_of_decode (decodeOfEncode i), h, Host.Outcome.next.injEq] at written
  exact written ▸ c

/-- Settles O18: a command is accepted or dropped, never rejected, and neither touches more than it must. -/
theorem commandFrame : Obligations.CommandFrame := by
  intro i s t h
  cases commandWrite_of_exec h with
  | accepted _ _ _ _ ready => simp [ready]
  | dropped busy => simp [busy]
  | rejected _ _ illegal => simp [decodeOfEncode i] at illegal

/-- Settles O21: only the offset of `CMD` is told from the others. -/
theorem otherWritesIgnored : Obligations.OtherWritesIgnored :=
  fun s _ v word other => hostWrite_other word other v s

/-- A fault entry changes nothing but the record (R174). -/
theorem raise_eq_record (s : State) (c : CommandFault) (v : Word) :
    s.raise c v = { s with fault := (s.raise c v).fault, cause := (s.raise c v).cause, finfo := (s.raise c v).finfo } := by
  rw [State.raise]
  split <;> rfl

/-- With `BUSY` = 1 a turn of the host changes nothing but the fault record and the model's own lists (R156, R158). -/
theorem HostTurn.eq_of_busy {u : Turn} (c : HostTurn u s t) (busy : s.busy = true) :
    t = { s with fault := t.fault, cause := t.cause, finfo := t.finfo, reads := t.reads, agenda := t.agenda } := by
  cases c with
  | otherWrite | read | wait => rfl
  | commandWrite v _ _ c =>
    cases c with
    | accepted _ _ _ _ ready => simp [busy] at ready
    | dropped =>
      rw [raise_reads, raise_agenda]
      exact raise_eq_record s _ v
    | rejected _ ready => simp [busy] at ready

/-- Settles O53: the turn is neither the controller's nor `Reset`, and taking it from the agenda changes only that list. -/
theorem hostTurnsLeaveOperation : Obligations.HostTurnsLeaveOperation := by
  intro s t busy notController notReset h
  cases step_cases h with
  | controller _ turn _ => exact absurd turn notController
  | host u rest _ _ c => exact c.eq_of_busy busy
  | reset turn => exact absurd turn notReset

end Sys2Proof.Machine
end

section
/-! What the host reads (R151, R152), and what it cannot tell (R159). -/

namespace Sys2Proof.Machine

variable {s : State}

/-! ### The table -/

theorem hostRead_word {off : Offset} (word : off.isWord = true) (s : State) : hostRead off s = .next (s.logRead off) :=
  if_pos word

/-- The `STATUS` word as a number: each flag at its bit (R151). -/
theorem statusWord_toNat (s : State) :
    (statusWord s).toNat = s.busy.toNat + 2 * s.done.toNat + 4 * s.fault.toNat + 16 * s.cause.toNat := by
  rw [statusWord, append_toNat, append_toNat, append_toNat, append_toNat, append_toNat]
  simp only [BitVec.toNat_ofBool, BitVec.toNat_ofNat]
  omega

/-- Above `STRLEN` and outside the string words every offset is reserved (R152). -/
theorem hostValue_reserved {off : Offset} (above : 0x14 ≤ off.toNat) (outside : off.toNat < 0x20 ∨ 0x40 < off.toNat)
    (s : State) : hostValue off s = 0#32 := by
  have low (x : Offset) (hx : x.toNat < 0x14) : off ≠ x := by
    rintro rfl
    omega
  rw [hostValue, if_neg (low _ (by decide)), if_neg (low _ (by decide)), if_neg (low _ (by decide)),
    if_neg (low _ (by decide)), if_neg (low _ (by decide)), if_neg (by omega)]

/-- Settles O19: row by row, the string words by O20's lemma and the reserved offsets by exclusion. -/
theorem hostReadTable : Obligations.HostReadTable := by
  refine ⟨fun s off word => hostRead_word word s, fun s => ⟨rfl, statusWord_toNat s, rfl, rfl, ?_, fun k => ?_,
    fun off above outside => hostValue_reserved above outside s⟩⟩
  · exact BitVec.toNat_setWidth_of_le (show 6 ≤ 32 by decide)
  · exact hostValue_stringWord (Nat.le_of_lt_succ k.isLt) s

/-! ### A failure reads like zeros -/

theorem assembleScalar_zeros {zeros : Buffer} (zero : ∀ j < 33, byteAt zeros j = 0#8) (w : BitVec 3) :
    assembleScalar w zeros = 0#32 := by
  have byte (j : Nat) (hj : j < 33) : zeros[j] = 0#8 := (getElem_eq_byteAt zeros hj).trans (zero j hj)
  rw [assembleScalar]
  split
  · simp [byte]
  · split <;> simp [byte]

theorem copyString_zero (b : Buffer) : copyString 0#6 b = emptyBuffer := by
  ext j hj
  simp [copyString, emptyBuffer]

theorem eq_stepStop {t : State} (h : microStep s = .next t) (stop : s.st = .stop) : t = stepStop s := by
  rw [microStep_stop stop, Host.Outcome.next.injEq] at h
  exact h.symm

/-- Settles O54: both commits of a kind write the same result, and the host reads nothing else in which they differ. -/
theorem busFailureInvisible : Obligations.BusFailureInvisible := by
  intro s zeros t u off stop zero failed
  refine ⟨fun scalar delivered => ?_, fun string delivered => ?_⟩
  · obtain rfl := (eq_stepStop failed stop).trans (stepStop_of_scalar scalar)
    obtain rfl := (eq_stepStop delivered stop).trans (stepStop_of_scalar scalar)
    rw [assembleScalar_zeros zero]
    rfl
  · obtain rfl := (eq_stepStop failed stop).trans (stepStop_of_string string (.inr rfl))
    obtain rfl := (eq_stepStop delivered stop).trans (stepStop_of_string string (.inl rfl))
    have empty : clampLength 0#8 = 0#6 := rfl
    rw [empty, copyString_zero]
    rfl

end Sys2Proof.Machine
end

section
/-! The blocking calls of the host (R160): the command, the wait and the reads of the result. -/

namespace Sys2Proof.Machine

variable {s t : State} {k : Nat} {i : Instr}

/-! ### The unpacking of `readString` -/

/-- The bytes of `STRW[k]` are four bytes of the buffer in order (R17). -/
theorem wordBytes_stringWord (b : Buffer) (k : Nat) :
    wordBytes (stringWord b k) = (List.range' (4 * k) 4).map (byteAt b) := by
  have byte (j : Nat) (hj : j < 4) := stringWord_byte b k hj
  rw [wordBytes, byte 0 (by decide), byte 1 (by decide), byte 2 (by decide), byte 3 (by decide)]
  rfl

/-- The bytes of the first `n` string words are the first `4n` of the buffer. -/
theorem flatMap_wordBytes_stringWord (b : Buffer) (n : Nat) :
    ((List.range n).map (stringWord b)).flatMap wordBytes = (List.range (4 * n)).map (byteAt b) := by
  induction n with
  | zero => rfl
  | succ n ih =>
    rw [List.range_succ, List.map_append, List.flatMap_append, ih, List.map_singleton, List.flatMap_singleton,
      wordBytes_stringWord, ← List.map_append, List.range_eq_range', List.range_eq_range', Nat.mul_succ,
      ← List.range'_append_1, Nat.zero_add]

/-- Settles O55: the nine words hold 36 bytes of the buffer, of which the call takes `len + 1`. -/
theorem stringUnpacks : Obligations.StringUnpacks := by
  intro b len short
  rw [unpackString, flatMap_wordBytes_stringWord, ← List.map_take, List.take_range, Nat.min_eq_left (by omega)]

/-! ### The controller does not look at the host -/

/-- `s` with other turns to come and other values read so far. -/
def State.withHost (turns : List Turn) (seen : List (Offset × Word)) (s : State) : State :=
  { s with agenda := turns, reads := seen }

/-- A `STOP` step is the same whatever the host has read and will do, be it the end of phase A or a commit. -/
theorem stepStop_withHost (turns : List Turn) (seen : List (Offset × Word)) (s : State) :
    stepStop (s.withHost turns seen) = (stepStop s).withHost turns seen := by
  by_cases phaseA : s.opk = 1#1 ∧ s.ph = .a ∧ s.failf = false
  · have next : stepStop s = s.release.startPhaseB := if_pos phaseA
    rw [next]
    exact if_pos phaseA
  · obtain scalar | string := BitVec.eq_zero_or_eq_one s.opk
    · rw [stepStop_of_scalar scalar]
      exact stepStop_of_scalar (s := s.withHost turns seen) scalar
    · have ends : s.ph = .b ∨ s.failf = true := by
        cases hp : s.ph with
        | a => exact .inr (by simpa [string, hp] using phaseA)
        | b => exact .inl rfl
      rw [stepStop_of_string string ends]
      exact stepStop_of_string (s := s.withHost turns seen) string ends

theorem microStep_idle (h : s.st = .idle) : microStep s = .next s := by simp only [microStep, h]

/-- A micro-step is the same whatever the host has read and will do: none of the rules R90 to R98 speaks of it. -/
theorem microStep_withHost (turns : List Turn) (seen : List (Offset × Word)) (h : microStep s = .next t) :
    microStep (s.withHost turns seen) = .next (t.withHost turns seen) := by
  have by_rule {u : State} (rule : microStep s = .next u)
      (rule' : microStep (s.withHost turns seen) = .next (u.withHost turns seen)) :
      microStep (s.withHost turns seen) = .next (t.withHost turns seen) := by
    rw [rule, Host.Outcome.next.injEq] at h
    rwa [h] at rule'
  rcases hack : s.periph.ack with ⟨a, p⟩
  have sent := transmitSteps s a p hack
  have sent' := transmitSteps (s.withHost turns seen) a p hack
  cases hs : s.st with
  | idle => exact by_rule (microStep_idle hs) (microStep_idle hs)
  | start => exact by_rule (microStep_start hs) (microStep_start hs)
  | rstart => exact by_rule (microStep_rstart hs) (microStep_rstart hs)
  | addrw => exact by_rule (sent.1 hs) (sent'.1 hs)
  | cmdb => exact by_rule (sent.2.1 hs) (sent'.2.1 hs)
  | addrr => exact by_rule (sent.2.2 hs) (sent'.2.2 hs)
  | datab =>
    by_cases slot : s.cnt < s.n ∧ s.n ≤ 33#6
    · rcases hslot : s.periph.slot with ⟨d | _, q⟩
      · exact by_rule (microStep_byte hs slot.1 slot.2 hslot)
          (microStep_byte (s := s.withHost turns seen) hs slot.1 slot.2 hslot)
      · exact by_rule (microStep_timeout hs slot.1 slot.2 hslot)
          (microStep_timeout (s := s.withHost turns seen) hs slot.1 slot.2 hslot)
    · rw [microStep_datab hs, stepDataB, if_neg slot] at h
      cases h
  | stop =>
    have next' := microStep_stop (s := s.withHost turns seen) hs
    rw [stepStop_withHost] at next'
    exact by_rule (microStep_stop hs) next'

/-! ### The wait -/

/-- The first step of a run with a silent host is a micro-step. -/
theorem Runs.first (run : Runs (k + 1) s t) (silent : s.agenda = []) : ∃ u, microStep s = .next u ∧ Runs k u t := by
  simp only [Runs, Host.Core.run] at run
  split at run
  · next u first => exact ⟨u, (step_of_silent silent).symm.trans first, run⟩
  · cases run
  · cases run

/-- An operation stays busy up to its commit, which leaves the controller idle (R97). -/
theorem MicroStep.idle_of_not_busy (m : MicroStep s t) (busy : s.busy = true) (ended : t.busy = false) : t.st = .idle := by
  obtain same | ⟨-, rfl⟩ := m.same_or_commit
  · simp [same.busy, busy] at ended
  · exact commit_st s

/-- The host's next turn is taken from the turns to come. -/
theorem step_withHost (u : Turn) (turns : List Turn) (seen : List (Offset × Word)) (s : State) :
    step (s.withHost (u :: turns) seen) = takeTurn u (s.withHost turns seen) := rfl

theorem hostWait_ready (ready : s.busy = false) : hostWait s = s.logRead 0x04#7 :=
  if_neg (by simp [ready])

theorem hostWait_busy (busy : s.busy = true) :
    hostWait s = { s.logRead 0x04#7 with agenda := .controller :: .wait :: s.agenda } :=
  if_pos busy

/-- The poll that finds `BUSY` = 0 ends the `WAIT`. -/
theorem step_wait_ready (turns : List Turn) (seen : List (Offset × Word)) (ready : s.busy = false) :
    step (s.withHost (.wait :: turns) seen) = .next (s.withHost turns (seen ++ [(0x04#7, statusWord s)])) :=
  (step_withHost ..).trans (congrArg Host.Outcome.next (hostWait_ready (s := s.withHost turns seen) ready))

/-- A poll that finds `BUSY` = 1 gives the controller a turn and polls again (R73; log 5). -/
theorem step_wait_busy (turns : List Turn) (seen : List (Offset × Word)) (busy : s.busy = true) :
    step (s.withHost (.wait :: turns) seen) =
      .next (s.withHost (.controller :: .wait :: turns) (seen ++ [(0x04#7, statusWord s)])) :=
  (step_withHost ..).trans (congrArg Host.Outcome.next (hostWait_busy (s := s.withHost turns seen) busy))

theorem step_controller (turns : List Turn) (seen : List (Offset × Word)) (h : microStep s = .next t) :
    step (s.withHost (.controller :: turns) seen) = .next (t.withHost turns seen) :=
  (step_withHost ..).trans (microStep_withHost turns seen h)

/-- A `WAIT` runs an operation to the end that it has with a silent host: the polls come between its micro-steps and change
nothing of it (R73, R158). -/
theorem Runs.under_wait (run : Runs k s t) (silent : s.agenda = []) (idle : s.busy = false → s.st = .idle)
    (ended : t.busy = false) (turns : List Turn) (seen : List (Offset × Word)) :
    ∃ j seen', Runs j (s.withHost (.wait :: turns) seen) (t.withHost turns seen') := by
  induction k generalizing s seen with
  | zero =>
    cases run
    exact ⟨1, _, .one (step_wait_ready turns seen ended)⟩
  | succ k ih =>
    obtain ⟨u, micro, later⟩ := run.first silent
    cases busy : s.busy with
    | false =>
      rw [microStep_idle (idle busy), Host.Outcome.next.injEq] at micro
      subst micro
      exact ih later silent idle seen
    | true =>
      have m := microStep_cases micro
      obtain ⟨j, seen', rest⟩ := ih later (m.keeps_agenda.trans silent) (m.idle_of_not_busy busy)
        (seen ++ [(0x04#7, statusWord s)])
      exact ⟨j + 2, seen', .cons (step_wait_busy turns seen busy) (.cons (step_controller _ _ micro) rest)⟩

/-! ### The reads of the result -/

/-- Reads at word offsets answer the registers one after the other, and change none (R151). -/
theorem runs_reads (offs : List Offset) (words : ∀ off ∈ offs, off.isWord = true) (s : State)
    (seen : List (Offset × Word)) :
    Runs offs.length (s.withHost (offs.map .read) seen)
      (s.withHost [] (seen ++ offs.map fun off => (off, hostValue off s))) := by
  induction offs generalizing seen with
  | nil => rw [List.map_nil, List.map_nil, List.append_nil]; exact .refl _
  | cons off offs ih =>
    obtain ⟨word, words⟩ := List.forall_mem_cons.mp words
    have read : step (s.withHost ((off :: offs).map .read) seen) =
        .next (s.withHost (offs.map .read) (seen ++ [(off, hostValue off s)])) :=
      (step_withHost ..).trans (hostRead_word word _)
    rw [List.map_cons, List.map_cons, List.append_cons]
    exact .cons read (ih words _)

/-! ### A whole call -/

theorem exec_eq_issue (i : Instr) : ∃ o w, ∀ s, exec i s = issue o w i.reg s := by
  cases i <;> exact ⟨_, _, fun _ => rfl⟩

/-- The acceptance of a command does not look at the host. -/
theorem exec_withHost (turns : List Turn) (seen : List (Offset × Word)) (ready : s.busy = false) (h : exec i s = .next t) :
    exec i (s.withHost turns seen) = .next (t.withHost turns seen) := by
  obtain ⟨o, w, issued⟩ := exec_eq_issue i
  rw [issued, issue_accepted ready, Host.Outcome.next.injEq] at h
  subst h
  exact (issued _).trans (issue_accepted ready)

/-- A call that writes the command `i`, waits and reads at `offs` ends with the registers read that the operation leaves
with a silent host. -/
theorem runs_call {t₀ : State} {offs : List Offset} (ready : s.busy = false)
    (agenda : s.agenda = commandTurn i :: .wait :: offs.map .read) (words : ∀ off ∈ offs, off.isWord = true)
    (accepted : exec i { s with agenda := [] } = .next t₀) (run : Runs k t₀ t) (ended : t.busy = false) :
    ∃ j u before, Runs j s u ∧ ProgramOver u ∧ u.reads = before ++ offs.map fun off => (off, hostValue off t) := by
  have begun := commandFrame i _ _ accepted
  have silent : t₀.agenda = [] := by simp [begun]
  have busy : t₀.busy = true := by simp [begun]
  have write : step s = .next (t₀.withHost (.wait :: offs.map .read) s.reads) :=
    (stepRunsDecodedCommand s _ i _ agenda (decodeOfEncode i)).trans
      (exec_withHost (.wait :: offs.map .read) s.reads (s := { s with agenda := [] }) ready accepted)
  obtain ⟨j, seen, wait⟩ := run.under_wait silent (by simp [busy]) ended (offs.map .read) s.reads
  exact ⟨_, _, seen, .cons write (wait.trans (runs_reads offs words t seen)), ⟨rfl, ended⟩, rfl⟩

/-! ### `readScalar` -/

/-- The call of a scalar command ends with its value read. -/
theorem ScalarRuns.call {n : Nat} {big : Periph → ScalarResult} (runs : ScalarRuns i n big) (ready : s.busy = false)
    (agenda : s.agenda = [commandTurn i, .wait, .read 0x0C#7]) :
    ∃ k t, Runs k s t ∧ ProgramOver t ∧ t.reads.getLast? = some (0x0C#7, (big s.periph).value) := by
  obtain ⟨t₀, k, t, accepted, -, -, -, -, -, run, value, -, -, committed, -⟩ := runs { s with agenda := [] } ready rfl
  obtain ⟨j, u, before, call, ended, reads⟩ :=
    runs_call (offs := [0x0C#7]) ready agenda (by decide) accepted run committed.busy
  refine ⟨j, u, call, ended, ?_⟩
  rw [reads, ← value]
  exact List.getLast?_concat

/-- Settles O56: the word that the call packs for a width is that of the width's command, whose operation O37 to O39 give. -/
theorem readScalarCallReturns : Obligations.ReadScalarCallReturns := fun _ reg ready =>
  ⟨fun agenda => (rd8ReadsOneByte reg).call ready agenda, fun agenda => (rd16ReadsTwoBytes reg).call ready agenda,
    fun agenda => (rd32ReadsFourBytes reg).call ready agenda⟩

/-! ### `readString` -/

theorem asString_chars_length_le {r : ReadResult} {n : Nat} (room : n ≤ 33) (length : r.ok = true → r.bytes.length = n) :
    r.asString.chars.length ≤ 32 := by
  rw [ReadResult.asString]
  split
  · next ok => rw [List.length_drop, length ok]; omega
  · exact Nat.zero_le 32

/-- A string read has at most 32 characters (R133). -/
theorem bigRdstr_chars_length_le (reg : Byte) (p : Periph) : (bigRdstr reg p).chars.length ≤ 32 := by
  cases ok : (memRead reg 1 p).ok with
  | false =>
    rw [bigRdstr_of_failed ok]
    exact asString_chars_length_le (by decide) (memRead_length (Nat.le_refl 1))
  | true =>
    rw [bigRdstr_of_ok ok]
    exact asString_chars_length_le (by omega) (memRead_length (Nat.succ_pos _))

/-- Characters and a zero lie at the start of a buffer that holds them and zeros. -/
theorem map_byteAt_of_getD {b : Buffer} {chars : List Byte} (short : chars.length ≤ 32)
    (stored : ∀ j < 33, byteAt b j = chars.getD j 0#8) :
    (List.range (chars.length + 1)).map (byteAt b) = chars ++ [0#8] := by
  have characters : (List.range chars.length).map (byteAt b) = chars := by
    refine List.ext_getElem (by simp) fun j hj _ => ?_
    have inside : j < chars.length := by simpa using hj
    simp [stored j (by omega), inside]
  have terminator : byteAt b chars.length = 0#8 := by
    rw [stored _ (by omega), List.getD_eq_default _ _ (Nat.le_refl _)]
  rw [List.range_succ, List.map_append, characters, List.map_singleton, terminator]

/-- The offsets of the nine string words (R10). -/
def stringOffsets : List Offset := (List.range 9).map fun k => BitVec.ofNat 7 (0x20 + 4 * k)

/-- What the reads at the string words answer (R17, R151). -/
theorem map_hostValue_stringOffsets (s : State) :
    (stringOffsets.map fun off => (off, hostValue off s)) =
      stringOffsets.zip ((List.range 9).map (stringWord s.strbuf)) := by
  rw [stringOffsets, List.map_map, List.zip_map']
  refine List.map_congr_left fun k hk => ?_
  rw [Function.comp, hostValue_stringWord (Nat.le_of_lt_succ (List.mem_range.mp hk))]

/-- Settles O57: the reads of the call are the length and the string words that the operation leaves (O40), and those
unpack to the start of the buffer (O55). -/
theorem readStringCallReturns : Obligations.ReadStringCallReturns := by
  intro s reg ready agenda
  obtain ⟨t₀, k, t, accepted, -, -, -, -, -, -, run, strlen, strbuf, -, -, committed, -⟩ :=
    rdstrReadsString reg { s with agenda := [] } ready rfl
  have short := bigRdstr_chars_length_le reg s.periph
  obtain ⟨j, u, before, call, ended, reads⟩ :=
    runs_call (i := .rdstr reg) (offs := 0x10#7 :: stringOffsets) ready agenda (by decide) accepted run committed.busy
  refine ⟨j, u, before, (List.range 9).map (stringWord t.strbuf), call, ended, rfl, ?_, ?_⟩
  · have length : hostValue 0x10#7 t = BitVec.ofNat 32 (bigRdstr reg s.periph).chars.length := by
      rw [← strlen, BitVec.ofNat_toNat]
      rfl
    rw [reads, List.map_cons, map_hostValue_stringOffsets, length]
    rfl
  · rw [stringUnpacks t.strbuf _ short]
    exact map_byteAt_of_getD short strbuf

end Sys2Proof.Machine
end

section
/-! The record of the first fault: what enters it, and that only `Reset` clears it (R13, R170, R174, R175, R178). -/

namespace Sys2Proof.Machine

variable {s t : State} {v : Word} {c : CommandFault}

/-! ### Fault entry -/

/-- A later fault changes nothing (R174). -/
theorem raise_of_fault (recorded : s.fault = true) : s.raise c v = s :=
  if_pos recorded

/-- The first fault is recorded (R174). -/
theorem raise_of_no_fault (clear : s.fault = false) :
    s.raise c v = { s with fault := true, cause := causeCode c, finfo := v } :=
  if_neg (Bool.eq_false_iff.mp clear)

/-- Settles O15: `raise` tests `FAULT` first, and `causeCode` gives the two codes of R170. -/
theorem faultEntry : Obligations.FaultEntry := by
  intro s f v
  refine ⟨raise_of_fault, fun clear => ?_⟩
  rw [raise_of_no_fault clear]
  cases f <;> rfl

/-! ### What a step does to the record -/

/-- `t` has the fault record of `s`. -/
structure SameRecord (s t : State) : Prop where
  fault : t.fault = s.fault
  cause : t.cause = s.cause
  finfo : t.finfo = s.finfo

/-- The turns to come are no part of the record. -/
theorem SameRecord.of_agenda {turns : List Turn} (same : SameRecord { s with agenda := turns } t) : SameRecord s t :=
  { same with }

/-- The fault that a write of `v` to `CMD` raises in `s`, by the table of R170; the busy test comes first (R178). -/
inductive WriteFault (s : State) (v : Word) : CommandFault → Prop where
  | whileBusy : s.busy = true → WriteFault s v .commandWhileBusy
  | illegal : s.busy = false → ¬ Legal v → WriteFault s v .illegalCommand

/-- The turns to come do not matter to the table. -/
theorem WriteFault.of_agenda {turns : List Turn} (fault : WriteFault { s with agenda := turns } v c) : WriteFault s v c := by
  cases fault with
  | whileBusy busy => exact .whileBusy busy
  | illegal ready illegal => exact .illegal ready illegal

/-- No micro-step raises a fault, a failed transaction neither (R170, R173). -/
theorem MicroStep.sameRecord (m : MicroStep s t) : SameRecord s t := by
  cases m with
  | commit => exact ⟨commit_fault s, commit_cause s, commit_finfo s⟩
  | _ => exact ⟨rfl, rfl, rfl⟩

theorem not_legal_of_decode_error {e : Illegal} (rejected : decode v = .error e) : ¬ Legal v := by
  intro legal
  obtain ⟨i, decoded⟩ := (legal_iff_decode v).mp legal
  simp [rejected] at decoded

/-- A write to `CMD` that is not accepted is a fault entry. -/
theorem CommandWrite.same_or_raised (w : CommandWrite v s t) :
    SameRecord s t ∨ ∃ c, WriteFault s v c ∧ t = s.raise c v := by
  cases w with
  | accepted => exact .inl ⟨rfl, rfl, rfl⟩
  | dropped busy => exact .inr ⟨_, .whileBusy busy, rfl⟩
  | rejected _ ready error => exact .inr ⟨_, .illegal ready (not_legal_of_decode_error error), rfl⟩

/-- No turn of the host but `Reset` and a write to `CMD` touches the record. -/
theorem HostTurn.same_or_raised {a : Turn} (turn : HostTurn a s t) :
    SameRecord s t ∨ ∃ v c, a = .write 0x00#7 v ∧ WriteFault s v c ∧ t = s.raise c v := by
  cases turn with
  | otherWrite | read | wait => exact .inl ⟨rfl, rfl, rfl⟩
  | commandWrite v _ written w =>
    obtain same | ⟨c, fault, raised⟩ := w.same_or_raised
    · exact .inl same
    · exact .inr ⟨v, c, written, fault, raised⟩

/-- What a step does to the fault record, one constructor per event that may change it. -/
inductive RecordStep (s : State) : State → Prop where
  | same (t : State) : SameRecord s t → RecordStep s t
  | raised (rest : List Turn) (v : Word) (c : CommandFault) : s.agenda = .write 0x00#7 v :: rest → WriteFault s v c →
      RecordStep s ({ s with agenda := rest }.raise c v)
  | reset : ResetNext s → RecordStep s { s with agenda := s.agenda.tail }.resetAction

/-- A step that answers a next state is one of `RecordStep`. -/
theorem recordStep_of_step (h : step s = .next t) : RecordStep s t := by
  cases step_cases h with
  | controller _ _ m => exact .same t m.sameRecord.of_agenda
  | host a rest _ agenda turn =>
    obtain same | ⟨v, c, rfl, fault, rfl⟩ := turn.same_or_raised
    · exact .same t same.of_agenda
    · exact .raised rest v c agenda fault.of_agenda
  | reset turn => exact .reset turn

/-! ### The statements -/

/-- Settles O16: the only event but `Reset` that may touch the record is a fault entry, and it keeps a record that is there. -/
theorem faultRecordStays : Obligations.FaultRecordStays := by
  intro s t recorded noReset h
  cases recordStep_of_step h with
  | same _ same => exact ⟨same.fault.trans recorded, same.cause, same.finfo⟩
  | raised => simp [recorded]
  | reset turn => exact absurd turn noReset

/-- Settles O17: `FAULT` rises at a fault entry only, and that of a write to `CMD` is one of the two of R170. -/
theorem faultOnlyFromCommandWrite : Obligations.FaultOnlyFromCommandWrite := by
  intro s t h clear recorded
  cases recordStep_of_step h with
  | same _ same => simp [same.fault, clear] at recorded
  | raised rest v c agenda fault =>
    refine ⟨v, rest, agenda, by simp [clear], ?_⟩
    cases fault with
    | whileBusy busy => exact .inl ⟨busy, by simp [clear, causeCode]⟩
    | illegal ready illegal => exact .inr ⟨ready, illegal, by simp [clear, causeCode]⟩
  | reset => simp [State.reset] at recorded

end Sys2Proof.Machine
end

section
/-! Reset and idleness (70_reset_and_hazards.md): what `Reset` leaves (R190, R192), and that the block starts nothing by
itself (R191). -/

namespace Sys2Proof.Machine

variable {s : State}

/-! ### The idle block -/

/-- A state that a step answers with itself stays through any number of steps. -/
theorem Runs.stay (fixed : step s = .next s) (k : Nat) : Runs k s s := by
  induction k with
  | zero => exact Runs.refl s
  | succ k ih => exact Runs.cons fixed ih

/-- Settles O25: with the host silent a step is a micro-step, and that of the idle controller keeps the state (log 2). -/
theorem idleBlockIsSilent : Obligations.IdleBlockIsSilent :=
  fun _ k idle silent => Runs.stay ((step_of_silent silent).trans (microStep_idle idle)) k

/-! ### The `Reset` turn -/

/-- `Reset` is taken from the agenda and always answers a next state. -/
theorem step_reset {rest : List Turn} (turn : s.agenda = .reset :: rest) :
    step s = .next { s with agenda := rest }.resetAction :=
  step_of_turn turn

/-- A transaction cut by `Reset` is marked (R192). -/
theorem traceAfterReset_of_owned (owned : s.bus = .owned) : traceAfterReset s = s.trace ++ [.abandoned] :=
  if_pos owned

/-- On a free bus `Reset` leaves no symbol (R192). -/
theorem traceAfterReset_of_free (free : s.bus = .free) : traceAfterReset s = s.trace :=
  if_neg (by simp [free])

theorem reset_strbuf : State.reset.strbuf = emptyBuffer := rfl

theorem reset_rbuf : State.reset.rbuf = emptyBuffer := rfl

/-- Settles O23: the elements of the block are those of power-on, both buffers empty, and `TRACE` goes by the bus. -/
theorem resetActionValues : Obligations.ResetActionValues := by
  intro s rest turn
  have strbuf (j : Nat) (_ : j < 33) : byteAt State.reset.strbuf j = 0#8 := by rw [reset_strbuf, byteAt_emptyBuffer]
  have rbuf (j : Nat) (_ : j < 33) : byteAt State.reset.rbuf j = 0#8 := by rw [reset_rbuf, byteAt_emptyBuffer]
  exact ⟨_, step_reset turn, rfl, rfl, rfl, rfl, rfl, rfl, rfl, strbuf, rfl, rfl, rfl, rfl, rfl, rfl, rfl, rfl, rbuf, rfl, rfl,
    traceAfterReset_of_owned (s := { s with agenda := rest }), traceAfterReset_of_free (s := { s with agenda := rest })⟩

/-! ### What the host reads -/

theorem stringWord_emptyBuffer (k : Nat) : stringWord emptyBuffer k = 0#32 := by
  simp [stringWord]

/-- At power-on every row of the table reads 0 (R36, R151). -/
theorem hostValue_reset (off : Offset) : hostValue off State.reset = 0#32 := by
  rw [hostValue]
  split
  · rfl -- the latched command
  split
  · rfl -- `STATUS`
  split
  · rfl -- `FINFO`
  split
  · rfl -- `DATA`
  split
  · rfl -- `STRLEN`
  split
  · rw [reset_strbuf, stringWord_emptyBuffer]
  · rfl -- a reserved offset

/-- The host reads no element that `Reset` keeps. -/
theorem hostValue_resetAction (off : Offset) (s : State) : hostValue off s.resetAction = hostValue off State.reset := rfl

/-- Settles O24: `Reset` reads as power-on does. -/
theorem resetReadsZero : Obligations.ResetReadsZero := fun s off =>
  ⟨hostValue_reset off, (hostValue_resetAction off s).trans (hostValue_reset off)⟩

end Sys2Proof.Machine
end
